-- ==== Sys2Proof/Word.lean ====
section
/-! DEFINITION. The word types of the KX-1604 and the one helper over fixed banks of records. -/

namespace Sys2Proof

/-- A register byte, a setup byte, a byte on the host bus. -/
abbrev Byte := BitVec 8

/-- A 16-bit counter or clock. -/
abbrev Word := BitVec 16

/-- A station number, 0 to 15 (00_scope, Terms). -/
abbrev Station := Fin 16

/-- A channel number, CH0 to CH15. -/
abbrev Channel := Fin 16

/-- A suppression group, 0 to 7. -/
abbrev Group := Fin 8

/-- Apply `f` to every record of a bank, each with its own index. -/
def each {α β : Type} {n : Nat} (f : Fin n → α → β) (v : Vector α n) : Vector β n :=
  Vector.ofFn fun i => f i v[i]

@[simp] theorem each_getElem {α β : Type} {n : Nat} (f : Fin n → α → β) (v : Vector α n) (k : Nat)
    (h : k < n) : (each f v)[k] = f ⟨k, h⟩ v[k] := by
  simp [each]

theorem each_get {α β : Type} {n : Nat} (f : Fin n → α → β) (v : Vector α n) (i : Fin n) :
    (each f v)[i] = f i v[i] := by
  simp

theorem set_get_same {α : Type} {n : Nat} (v : Vector α n) (i : Fin n) (x : α) :
    (v.set i x)[i] = x := by
  simp

theorem set_get_other {α : Type} {n : Nat} (v : Vector α n) {i j : Fin n} (h : i ≠ j) (x : α) :
    (v.set i x)[j] = v[j] := by
  have : i.val ≠ j.val := fun e => h (Fin.ext e)
  simp [this]

theorem set_get {α : Type} {n : Nat} (v : Vector α n) (i j : Fin n) (x : α) :
    (v.set i x)[j] = if i = j then x else v[j] := by
  by_cases h : i = j
  · subst h; simp
  · rw [if_neg h, set_get_other v h]

end Sys2Proof
end

