-- ==== Sys2Proof/Config.lean ====
section
/-! DEFINITION. What the KX-1604 fixes once for the part: the sizes of its banks and stores.
The spec leaves no value of this part open, so there is no free value here. -/

namespace Sys2Proof.Config

/-- The event log holds at most 32 records (09, R154). -/
def logCapacity : Nat := 32

/-- The largest count a conversion gives (01, R2). -/
def maxCount : Nat := 4095

/-- The largest strength a CLAIM carries (02, R21). -/
def maxStrength : Nat := 1023

/-- The most holdings a PULSE lists (05, R88). -/
def maxHoldings : Nat := 8

/-- The failure run that ends ONLINE (05, R101). -/
def failureRun : Nat := 16

/-- The rail run that faults a channel, and the in-range run that recovers it (01, R12, R15). -/
def railRun : Nat := 16

/-- The conversions that make a seeding (02, R23). -/
def seedRun : Nat := 16

/-- The anti-touch run (02, R28). -/
def antiTouchRun : Nat := 4

/-- The settled reference conversions that end hush (02, R37). -/
def settleRun : Nat := 8

end Sys2Proof.Config
end

