-- ==== Sys2Proof/Syntax.lean ====
section
/-! DEFINITION. The commands of the KX-1604: one constructor of `Instr` per row of
spec/opcode_table.json, with the data each event brings, and the frames of the panel link. -/

namespace Sys2Proof

/-- The pace of a station (07, 7.7). -/
inductive Cadence where
  | brisk
  | slack
  deriving DecidableEq, Repr

/-- The reason a RELEASE carries (06, R105; codes in 11, R177). -/
inductive Reason where
  | lift
  | withdrawn
  | stuck
  | reseed
  | fault
  deriving DecidableEq, Repr

/-- The body fields of a PULSE after its station field (05, 5.3; 11, R177). -/
structure PulseFields where
  cadence  : Cadence
  hushed   : Bool
  stirred  : Bool
  leaving  : Bool
  holdings : List (Group × Channel)
  deriving DecidableEq, Repr

/-- A frame of the panel link, by its fields (05, 5.3). The first station field is the sender. -/
inductive Frame where
  | recal   (sender : Station)
  | release (sender : Station) (group : Group) (channel : Channel) (reason : Reason)
  | confirm (sender : Station) (group : Group) (channel : Channel)
  | claim   (strength : Nat) (sender : Station) (group : Group) (channel : Channel)
  | pulse   (sender : Station) (fields : PulseFields)
  deriving DecidableEq, Repr

/-- The strap pins as a full reset samples them (08, R137). -/
structure Straps where
  station  : Station
  address  : Fin 4
  autojoin : Bool
  deriving DecidableEq, Repr

/-- How a host transaction ends on the bus (10, R163, R166). -/
inductive BusEnd where
  | stop
  | repeatedStart
  deriving DecidableEq, Repr

/-- The commands: every row of spec/opcode_table.json. Bits on the link are `true` for recessive
(1) and `false` for dominant (0). A frame bit is numbered from 1, the start bit (11, R177). -/
inductive Instr where
  /-- FULL_RESET (R136): the straps as sampled. -/
  | fullReset (straps : Straps)
  /-- CONVERSION_COMPLETION (R19): the count the conversion in progress delivers. -/
  | conversionCompletion (count : Nat)
  /-- WAIT_TIMER_EXPIRY (R4). -/
  | waitTimerExpiry
  /-- FRAME_HEARD (R91): the intact frame. -/
  | frameHeard (frame : Frame)
  /-- FRAME_DISCARDED (R90): the bits read, from the start bit to the condemning bit. -/
  | frameDiscarded (bits : List Bool)
  /-- ATTEMPT_START (R93). -/
  | attemptStart
  /-- ATTEMPT_FAILURE (R99): the frame bit at which the attempt fails. -/
  | attemptFailure (bit : Nat)
  /-- LOSS_OF_ARBITRATION (R96): the frame bit at which arbitration is lost. -/
  | lossOfArbitration (bit : Nat)
  /-- CONTEST_TIMER_EXPIRY (R51). -/
  | contestTimerExpiry (group : Group)
  /-- ABANDON_TIMER_EXPIRY (R53). -/
  | abandonTimerExpiry (group : Group)
  /-- GUARD_TIMER_EXPIRY (R55). -/
  | guardTimerExpiry (group : Group)
  /-- HOLD_TIMER_EXPIRY (R81). -/
  | holdTimerExpiry (channel : Channel)
  /-- PULSE_INTERVAL_TIMER_EXPIRY (R114). -/
  | pulseIntervalTimerExpiry
  /-- LAST_HEARD_TIMER_EXPIRY (R123). -/
  | lastHeardTimerExpiry (peer : Station)
  /-- QUIET_TIMER_EXPIRY (R131). -/
  | quietTimerExpiry
  /-- SETUP_HOLD_TIMER_EXPIRY (R141). -/
  | setupHoldTimerExpiry
  /-- LISTEN_TIMER_EXPIRY (R144). -/
  | listenTimerExpiry
  /-- MUTE_TIMER_EXPIRY (R146). -/
  | muteTimerExpiry
  /-- MILLISECOND_CLOCK_TICK (R153). -/
  | millisecondClockTick
  /-- HOST_TRANSACTION_START (R163): the address byte after the start condition. -/
  | hostTransactionStart (addressByte : Byte)
  /-- HOST_TRANSACTION_END (R166). -/
  | hostTransactionEnd (how : BusEnd)
  /-- JOIN (R140). -/
  | join
  /-- RESTART (R151). -/
  | restart
  /-- RESEED (R24): of the channel the argument register names. -/
  | reseed
  /-- PANEL_RECAL (R112). -/
  | panelRecal
  /-- LEAVE (R147). -/
  | leave
  /-- CLEAR_COUNTERS (R175). -/
  | clearCounters
  /-- UNKNOWN_COMMAND (R170): the command byte. -/
  | unknownCommand (code : Byte)
  /-- SETUP_WINDOW_WRITE (R173): a byte written at a register index of 40H to 7FH. -/
  | setupWindowWrite (value : Byte)
  /-- CURSOR_WRITE (R174): a byte written at register index 03H or 04H. -/
  | cursorWrite (value : Byte)
  /-- REGISTER_WRITE (R164): the index byte of a WRITE transaction, or a byte written at any other
  register index. -/
  | registerWrite (value : Byte)
  /-- RECORD_WINDOW_READ (R167): one byte of the record window, and whether the controller
  acknowledges it. -/
  | recordWindowRead (acknowledged : Bool)
  /-- EVENT_WINDOW_READ (R168): one byte of the event window. -/
  | eventWindowRead (acknowledged : Bool)
  /-- VALUE_LATCH_READ (R169): one byte read outside the two windows, latched where its value has
  two bytes and live where it has one. -/
  | valueLatchRead (acknowledged : Bool)
  /-- LINE_IDLE (R92). -/
  | lineIdle
  /-- START_BIT_READ (R87). -/
  | startBitRead
  /-- RESET_ASSERTED (R136). -/
  | resetAsserted
  deriving DecidableEq, Repr

end Sys2Proof
end

