-- ==== Sys2Proof/WellFormed.lean ====
section
/-! DEFINITION. When a frame, and a command, is one the part can meet: every operand in the range
the spec gives it. -/

namespace Sys2Proof

/-- A frame that can be intact: a CLAIM's strength is 1 to 1023 (05, R89) and a PULSE lists 0 to 8
holdings (05, R88). -/
abbrev Frame.WellFormed : Frame → Prop
  | .recal _ => True
  | .release _ _ _ _ => True
  | .confirm _ _ _ => True
  | .claim strength _ _ _ => 1 ≤ strength ∧ strength ≤ Config.maxStrength
  | .pulse _ fields => fields.holdings.length ≤ Config.maxHoldings

/-- The same as a Bool, for the machine to test. -/
def Frame.wellFormed : Frame → Bool
  | .recal _ => true
  | .release _ _ _ _ => true
  | .confirm _ _ _ => true
  | .claim strength _ _ _ => decide (1 ≤ strength) && decide (strength ≤ Config.maxStrength)
  | .pulse _ fields => decide (fields.holdings.length ≤ Config.maxHoldings)

theorem Frame.wellFormed_iff (f : Frame) : f.wellFormed = true ↔ f.WellFormed := by
  cases f <;> simp [Frame.wellFormed, Frame.WellFormed]

/-- A command whose operands lie in the ranges the spec gives them: a count is 0 to 4095 (01, R2),
a frame heard can be intact, the bits of a discarded frame are at least a kind and at most the
longest frame (05, R88, R90), a failing or losing bit lies in the longest frame, and an unknown
command is none of the six (10, R170). -/
def Instr.wellFormed : Instr → Bool
  | .conversionCompletion count => decide (count ≤ Config.maxCount)
  | .frameHeard frame => frame.wellFormed
  | .frameDiscarded bits => decide (4 ≤ bits.length) && decide (bits.length ≤ 87)
  | .attemptFailure bit => decide (1 ≤ bit) && decide (bit ≤ 87)
  | .lossOfArbitration bit => decide (2 ≤ bit) && decide (bit ≤ 18)
  | .unknownCommand code => decide (code = 0#8) || decide (7 ≤ code.toNat)
  | _ => true

end Sys2Proof
end

