-- ==== Sys2Proof/Decode.lean ====
section
/-! DEFINITION. What a table word spells. spec/opcode_table.json gives no row any bits
(98_reader, n_rows_with_fixed 0), so no word spells a command. -/

namespace Sys2Proof

/-- The command a word spells by the table's bits: none, since no row of the table gives bits. -/
def decodeTableWord (_nbits _w : Nat) : Option Instr := none

end Sys2Proof
end

