-- ==== Sys2Proof/Machine/Times.lean ====
section
/-! DEFINITION. The times the spec fixes, in microseconds. -/

namespace Sys2Proof.Machine

/-- One bit time of the link (05, R86). -/
def bitTimeUs : Nat := 8

/-- One millisecond. -/
def msUs : Nat := 1000

/-- One conversion step (01, R2). -/
def conversionStepUs : Nat := 400

/-- The abandon limit of a contest (03, R53). -/
def abandonUs : Nat := 250 * msUs

/-- The guard time (03, R54). -/
def guardUs : Nat := 24 * msUs

/-- The setup hold under AUTOJOIN (08, R141). -/
def setupHoldUs : Nat := 100 * msUs

/-- The listen window (08, R144). -/
def listenUs : Nat := 1200 * msUs

/-- The mute period (08, R146). -/
def muteUs : Nat := 1000 * msUs

/-- The PULSE interval of a cadence (06, R114). -/
def pulseIntervalUs : Cadence → Nat
  | .brisk => 50 * msUs
  | .slack => 500 * msUs

/-- The loss threshold: three PULSE intervals of the announced cadence, BRISK where none is
announced (07, R122). -/
def lossThresholdUs : Option Cadence → Nat
  | none => 3 * pulseIntervalUs .brisk
  | some c => 3 * pulseIntervalUs c

end Sys2Proof.Machine
end

