-- ==== Sys2Proof/Machine/Operands.lean ====
section
/-! DEFINITION. The frames of the panel link as bits: the sender's encoding, the check, and the
receiver's judgement of the bits it has read (05, R88 to R90, R94; 11, R177, R178). A bit is `true`
for recessive (1) and `false` for dominant (0). -/

namespace Sys2Proof.Machine

/-- A number in `w` bits, most significant bit first (11, preamble). -/
def numBits : Nat → Nat → List Bool
  | 0, _ => []
  | w + 1, n => (n / 2 ^ w % 2 == 1) :: numBits w n

/-- The number that bits spell, most significant bit first. -/
def bitsNum (bits : List Bool) : Nat := bits.foldl (fun a b => 2 * a + b.toNat) 0

/-- One bit through the check register (11, R178). -/
def checkStep (reg : BitVec 8) (bit : Bool) : BitVec 8 :=
  if reg.msb ^^ bit then (reg <<< 1) ^^^ 0x07#8 else reg <<< 1

/-- The check over the bits from the first kind bit through the last body bit (05, R89; 11, R178). -/
def checkOf (bits : List Bool) : BitVec 8 := bits.foldl checkStep 0x00#8

/-- The reason code (11, R177). -/
def reasonCode : Reason → Nat
  | .lift => 0
  | .withdrawn => 1
  | .stuck => 2
  | .reseed => 3
  | .fault => 4

/-- The reason a code names; codes 5 to 7 name none (11, R177). -/
def reasonOfCode (n : Nat) : Option Reason :=
  if n = 0 then some .lift
  else if n = 1 then some .withdrawn
  else if n = 2 then some .stuck
  else if n = 3 then some .reseed
  else if n = 4 then some .fault
  else none

/-- The cadence bit: 0 BRISK, 1 SLACK (11, R177). -/
def cadenceBit : Cadence → Bool
  | .brisk => false
  | .slack => true

/-- The cadence a bit gives. -/
def cadenceOfBit (b : Bool) : Cadence := if b then .slack else .brisk

/-- The sender of a frame (05, 5.3). -/
def senderOf : Frame → Station
  | .recal s => s
  | .release s _ _ _ => s
  | .confirm s _ _ => s
  | .claim _ s _ _ => s
  | .pulse s _ => s

/-- The (group, channel) pairs of a PULSE in the order sent. -/
def holdingBits (l : List (Group × Channel)) : List Bool :=
  l.flatMap fun p => numBits 3 p.1.val ++ numBits 4 p.2.val

/-- The kind and body bits, the bits the check covers (05, R89; 11, R177). -/
def coveredBits : Frame → List Bool
  | .recal s => numBits 3 0 ++ numBits 4 s.val
  | .release s g c r =>
    numBits 3 1 ++ (numBits 4 s.val ++ (numBits 3 g.val ++ (numBits 4 c.val ++ numBits 3 (reasonCode r))))
  | .confirm s g c => numBits 3 2 ++ (numBits 4 s.val ++ (numBits 3 g.val ++ numBits 4 c.val))
  | .claim strength s g c =>
    numBits 3 3 ++ (numBits 10 (1023 - strength) ++ (numBits 4 s.val ++ (numBits 3 g.val ++ numBits 4 c.val)))
  | .pulse s p =>
    numBits 3 4 ++ (numBits 4 s.val ++ ([cadenceBit p.cadence, p.hushed, p.stirred, p.leaving]
      ++ (numBits 4 p.holdings.length ++ holdingBits p.holdings)))

/-- A whole frame on the line: start bit, kind and body, check, end field (05, 5.3; 11, R177). -/
def frameBits (f : Frame) : List Bool :=
  false :: (coveredBits f ++ (numBits 8 (checkOf (coveredBits f)).toNat ++ List.replicate 7 true))

/-- The last frame bit of the arbitration field: 18 for a CLAIM, 8 for the others (05, R94). -/
def arbitrationEnd : Frame → Nat
  | .claim _ _ _ _ => 18
  | _ => 8

/-- Whether frame bit `k` (from 1) of a frame is sent dominant. -/
def sentDominant (f : Frame) (k : Nat) : Bool := (frameBits f)[k - 1]? == some false

/-- The bits at which an own attempt can fail: the start bit read recessive, an arbitration bit
sent dominant and read recessive, any later bit read differently, an end-field bit read dominant
(05, R94, R99). -/
def canFailAt (f : Frame) (k : Nat) : Bool :=
  decide (1 ≤ k) && decide (k ≤ (frameBits f).length)
    && (decide (arbitrationEnd f < k) || sentDominant f k)

/-- The bits at which an own attempt can lose arbitration: an arbitration bit sent recessive (and
read dominant) (05, R94). -/
def canLoseAt (f : Frame) (k : Nat) : Bool :=
  decide (2 ≤ k) && decide (k ≤ arbitrationEnd f) && !sentDominant f k

/-- The bits read by a loser up to the losing bit: its own bits, and the winner's dominant bit
there (05, R96). -/
def bitsReadAtLoss (f : Frame) (k : Nat) : List Bool := (frameBits f).take (k - 1) ++ [false]

/-- The kind code of the bits read, once the fourth frame bit has been read (05, R88). -/
def kindOf (bits : List Bool) : Option Nat :=
  if bits.length < 4 then none else some (bitsNum ((bits.drop 1).take 3))

/-- The holdings count field, frame bits 13 to 16 (11, R177). -/
def countField (bits : List Bool) : Nat := bitsNum ((bits.drop 12).take 4)

/-- The frame length once the bits read fix it: by the kind, and for a PULSE by the holdings count,
judged at the seventeenth bit (05, R88; 11, R178). -/
def lengthOf (bits : List Bool) : Option Nat :=
  match kindOf bits with
  | some 0 => some 23
  | some 1 => some 33
  | some 2 => some 30
  | some 3 => some 40
  | some 4 =>
    if bits.length < 17 then none
    else if countField bits ≤ Config.maxHoldings then some (31 + 7 * countField bits) else none
  | _ => none

/-- What the receiver makes of the bits read so far. -/
inductive Verdict where
  /-- More bits are to come. -/
  | assembling
  /-- The last bit read makes an intact frame (R89, R91). -/
  | heard (frame : Frame)
  /-- The last bit read condemns the frame; the recessive run afterwards (R90). -/
  | discarded (run : Nat)
  /-- The bits are no frame in assembly: the first is not a start bit, or bits follow the bit that
  ended the frame. -/
  | noFrame
  deriving DecidableEq, Repr

/-- The field of `w` bits that starts after the first `start` frame bits, as a number. -/
def field (bits : List Bool) (start w : Nat) : Nat := bitsNum ((bits.drop start).take w)

/-- The `n` holdings pairs of a PULSE, from frame bit 17 on. -/
def holdingsOf : Nat → List Bool → List (Group × Channel)
  | 0, _ => []
  | n + 1, bits =>
    (Fin.ofNat 8 (field bits 0 3), Fin.ofNat 16 (field bits 3 4)) :: holdingsOf n (bits.drop 7)

/-- The frame that the fields of an assembled frame spell, none where the strength or the reason
condemns it (05, R89; 11, R177). -/
def frameOf (kind : Nat) (bits : List Bool) : Option Frame :=
  if kind = 0 then some (.recal (Fin.ofNat 16 (field bits 4 4)))
  else if kind = 1 then
    (reasonOfCode (field bits 15 3)).map fun r =>
      .release (Fin.ofNat 16 (field bits 4 4)) (Fin.ofNat 8 (field bits 8 3))
        (Fin.ofNat 16 (field bits 11 4)) r
  else if kind = 2 then
    some (.confirm (Fin.ofNat 16 (field bits 4 4)) (Fin.ofNat 8 (field bits 8 3))
      (Fin.ofNat 16 (field bits 11 4)))
  else if kind = 3 then
    if field bits 4 10 = 1023 then none
    else some (.claim (1023 - field bits 4 10) (Fin.ofNat 16 (field bits 14 4))
      (Fin.ofNat 8 (field bits 18 3)) (Fin.ofNat 16 (field bits 21 4)))
  else some (.pulse (Fin.ofNat 16 (field bits 4 4))
    { cadence := cadenceOfBit (bits[8]?.getD false)
      hushed := bits[9]?.getD false
      stirred := bits[10]?.getD false
      leaving := bits[11]?.getD false
      holdings := holdingsOf (countField bits) (bits.drop 16) })

/-- The judgement of a frame whose length is known (05, R89, R90): a dominant end-field bit
condemns it at that bit; the other tests are made at the last bit. -/
def judgeKnown (kind len : Nat) (bits : List Bool) : Verdict :=
  let ends := bits.drop (len - 7)
  if len < bits.length then .noFrame
  else if ends.dropLast.any (fun b => !b) then .noFrame
  else if ends.getLast? = some false then .discarded 0
  else if bits.length < len then .assembling
  else if (checkOf ((bits.drop 1).take (len - 16))).toNat ≠ field bits (len - 15) 8 then .discarded 7
  else match frameOf kind bits with
    | some f => .heard f
    | none => .discarded 7

/-- The receiver's judgement of the bits read from the start bit on (05, R88 to R90; 11, R178). A
kind of none of the five condemns the frame at its fourth bit, a holdings count of 9 to 15 at its
seventeenth. -/
def judge (bits : List Bool) : Verdict :=
  if bits.head? ≠ some false then .noFrame
  else match kindOf bits with
    | none => .assembling
    | some kind =>
      if 4 < kind then (if bits.length = 4 then .discarded 0 else .noFrame)
      else if kind = 4 ∧ bits.length < 17 then .assembling
      else match lengthOf bits with
        | none => if bits.length = 17 then .discarded 0 else .noFrame
        | some len => judgeKnown kind len bits

end Sys2Proof.Machine
end

