-- ==== Sys2Proof/Machine/Setup.lean ====
section
/-! DEFINITION. The setup block: its default bytes, its validation, and the settings the blocks
read from it when scanning starts (08, R138, R139; 11, R179, R180). -/

namespace Sys2Proof.Machine

/-- The 64 bytes of station configuration (11, R179). -/
abbrev SetupBlock := Vector Byte 64

/-- The default byte at each offset (11, R179). -/
def defaultSetupByte (n : Nat) : Byte :=
  if n < 0x10 then BitVec.ofNat 8 (0x80 + 8 * (n % 8) + 3)
  else if n < 0x30 then (if n % 2 = 0 then 0x00#8 else 0x28#8)
  else if n = 0x30 then 0x02#8
  else if n = 0x31 then 0x03#8
  else if n = 0x32 then 0x03#8
  else if n = 0x33 then 0x20#8
  else if n = 0x34 then 0x14#8
  else if n = 0x35 then 0x32#8
  else if n = 0x36 then 0x04#8
  else if n = 0x37 then 0x04#8
  else if n = 0x38 then 0x03#8
  else if n = 0x39 then 0xFF#8
  else if n = 0x3A then 0x10#8
  else 0x00#8

/-- The setup block after full reset (11, R179). -/
def defaultSetupBlock : SetupBlock := Vector.ofFn fun i => defaultSetupByte i.val

/-- The byte at an offset, as a number; offsets beyond the block read 0. -/
def setupAt (b : SetupBlock) (n : Nat) : Nat := (b[n]?.getD 0#8).toNat

/-- The group field, bits 6 to 3, of a configuration byte (11, R179). -/
def groupField (byte : Nat) : Nat := byte / 8 % 16

/-- A channel's touch threshold: two bytes judged as one value, high byte first (11, R180). -/
def thresholdOf (b : SetupBlock) (c : Nat) : Nat :=
  256 * setupAt b (0x10 + 2 * c) + setupAt b (0x11 + 2 * c)

/-- The settings at their offsets in ascending order, each with whether it is in range (08, R139;
11, R179, R180). Bytes that hold no setting are not examined. -/
def setupChecks (b : SetupBlock) : List (Nat × Bool) :=
  (List.range 16).map (fun c => (c, decide (groupField (setupAt b c) ≤ 7)))
    ++ (List.range 16).map (fun c =>
        (0x10 + 2 * c, decide (8 ≤ thresholdOf b c) && decide (thresholdOf b c ≤ 1023)))
    ++ [(0x30, decide (setupAt b 0x30 ≤ 3)),
        (0x31, decide (1 ≤ setupAt b 0x31) && decide (setupAt b 0x31 ≤ 7)),
        (0x32, decide (1 ≤ setupAt b 0x32) && decide (setupAt b 0x32 ≤ 7)),
        (0x33, decide (1 ≤ setupAt b 0x33)),
        (0x34, decide (1 ≤ setupAt b 0x34)),
        (0x35, decide (1 ≤ setupAt b 0x35)),
        (0x36, decide (1 ≤ setupAt b 0x36) && decide (setupAt b 0x36 ≤ 15)),
        (0x37, decide (1 ≤ setupAt b 0x37) && decide (setupAt b 0x37 ≤ 15)),
        (0x38, decide (setupAt b 0x38 ≤ 7)),
        (0x39, decide (setupAt b 0x39 ≤ 15) || decide (setupAt b 0x39 = 0xFF)),
        (0x3A, decide (1 ≤ setupAt b 0x3A))]

/-- JOIN validation: the offset of the first setting out of range, none where the block is valid
(08, R139). -/
def firstBadOffset (b : SetupBlock) : Option Nat :=
  ((setupChecks b).find? fun p => !p.2).map Prod.fst

/-- The station-wide settings the blocks use, in the units they use them in (02, 2.1; 08, R138). -/
structure Settings where
  /-- Hysteresis in eighths: 4, 5, 6 or 7. -/
  hysteresis    : Nat
  touchDebounce : Nat
  liftDebounce  : Nat
  driftPeriod   : Nat
  briskWaitUs   : Nat
  slackWaitUs   : Nat
  quietUs       : Nat
  contestUs     : Nat
  /-- Absent when the hold limit is off. -/
  holdUs        : Option Nat
  /-- Absent when the reference is disabled. -/
  refHost       : Option Channel
  hushLimit     : Nat
  deriving DecidableEq, Repr

/-- The settings that a setup block gives (11, R179). The hysteresis codes 0 to 3 are 1/2, 5/8, 3/4
and 7/8. -/
def settingsOf (b : SetupBlock) : Settings where
  hysteresis    := 4 + setupAt b 0x30
  touchDebounce := setupAt b 0x31
  liftDebounce  := setupAt b 0x32
  driftPeriod   := setupAt b 0x33
  briskWaitUs   := setupAt b 0x34 * msUs
  slackWaitUs   := setupAt b 0x35 * 4 * msUs
  quietUs       := setupAt b 0x36 * 5000 * msUs
  contestUs     := setupAt b 0x37 * 4 * msUs
  holdUs        := if setupAt b 0x38 = 0 then none else some (setupAt b 0x38 * 10000 * msUs)
  refHost       := if setupAt b 0x39 ≤ 15 then some (Fin.ofNat 16 (setupAt b 0x39)) else none
  hushLimit     := setupAt b 0x3A * 4

/-- A channel's setup values (02, 2.1; 11, R179). -/
structure ChannelSetup where
  enabled          : Bool
  group            : Group
  step             : Nat
  touchThreshold   : Nat
  releaseThreshold : Nat
  deriving DecidableEq, Repr

/-- The release threshold: the touch threshold times the hysteresis fraction, truncated, and raised
to 4 (02, R18). -/
def releaseThresholdOf (touchThreshold hysteresisEighths : Nat) : Nat :=
  max 4 (touchThreshold * hysteresisEighths / 8)

/-- The setup values of channel `c` that a setup block gives (02, R41; 11, R179). -/
def channelSetupOf (b : SetupBlock) (c : Channel) : ChannelSetup where
  enabled          := decide (128 ≤ setupAt b c.val)
  group            := Fin.ofNat 8 (groupField (setupAt b c.val))
  step             := setupAt b c.val % 8
  touchThreshold   := thresholdOf b c.val
  releaseThreshold := releaseThresholdOf (thresholdOf b c.val) (settingsOf b).hysteresis

end Sys2Proof.Machine
end

