-- ==== Sys2Proof/Machine/State.lean ====
section
/-! DEFINITION. The state of a KX-1604, block by block (00_scope, Block overview), and its values
after full reset. Every timer that may run is an `Option Nat`: absent when stopped, the remaining
microseconds when running. -/

namespace Sys2Proof.Machine

/-! ### Sense front end (01) -/

/-- A slot of the scan list: the reference capacitor or a channel (01, R1). -/
inductive Slot where
  | reference
  | channel (c : Channel)
  deriving DecidableEq, Repr

/-- What the front end is doing (01). -/
inductive Phase where
  | scan
  | wait
  deriving DecidableEq, Repr

/-- The sense front end (01, the front end's table; R1). -/
structure FrontEnd where
  scanList   : List Slot
  phase      : Option Phase
  position   : Option Slot
  /-- The slot converted and the microseconds left until the conversion's end time. -/
  conversion : Option (Slot × Nat)
  waitTimer  : Option Nat
  cycle      : Word
  deriving DecidableEq, Repr

/-! ### Channel tracker and key state unit (02, 04) -/

/-- The state of a channel record (02, 2.1; codes in 11, R183). -/
inductive ChanState where
  | off
  | seeding
  | idle
  | arming
  | candidate
  | contending
  | pressed
  | suppressed
  | faulted
  deriving DecidableEq, Repr

/-- A channel record. The record of the reference host is the reference record; only it has a
deviation (02, 2.1, 2.8; 04; 01, R11). -/
structure Chan where
  setup         : ChannelSetup
  state         : ChanState
  baseline      : Option Nat
  count         : Option Nat
  delta         : Option Int
  deviation     : Option Nat
  touchDebounce : Nat
  liftDebounce  : Nat
  drift         : Int
  antiTouch     : Nat
  /-- Seed sum and seed count. -/
  seed          : Option (Nat × Nat)
  rail          : Nat
  inRange       : Option Nat
  holdTimer     : Option Nat
  deriving DecidableEq, Repr

/-- Hush (02, 2.8): the settle counter is present only while hushed. -/
structure Tracker where
  hushed   : Bool
  settle   : Option Nat
  settings : Settings
  deriving DecidableEq, Repr

/-! ### Claim table (03) -/

/-- The (station, channel) pair a group entry names (03, 3.1). -/
structure Holder where
  station : Station
  channel : Channel
  deriving DecidableEq, Repr

/-- A group entry. Each state carries exactly the fields R43 gives it; the abandon and guard timers
run in CONTESTED and GUARD, the contest timer may run in CONTESTED. -/
inductive Entry where
  | free
  | contested (holder : Holder) (strength : Nat) (abandon : Nat) (contest : Option Nat)
  | owned (holder : Holder) (strength : Nat) (since : Word)
  | guarded (remaining : Nat)
  deriving DecidableEq, Repr

/-- The claim table (03, 3.1, R65). -/
structure ClaimTable where
  entries   : Vector Entry 8
  stray     : Word
  abandoned : Word
  deriving DecidableEq, Repr

/-! ### Transmit queue (06) -/

/-- A place in the transmit queue (06, R105). -/
inductive TxSlot where
  | recal
  | group (g : Group)
  | pulse
  deriving DecidableEq, Repr

/-- The frame a group slot may hold (06, R105). -/
inductive GroupFrame where
  | claim (c : Channel)
  | confirm (c : Channel)
  | release (c : Channel) (reason : Reason)
  deriving DecidableEq, Repr

/-- A group slot: its frame and the RELEASE that follows up behind a frame in flight. -/
structure GroupSlot where
  frame    : Option GroupFrame
  followUp : Option (Channel × Reason)
  deriving DecidableEq, Repr

/-- The transmit queue (06). -/
structure TxQueue where
  recal             : Bool
  pulse             : Bool
  renewal           : Bool
  groups            : Vector GroupSlot 8
  inFlight          : Option TxSlot
  withdrawnInFlight : Bool
  intervalTimer     : Option Nat
  deriving DecidableEq, Repr

/-! ### Link controller (05) -/

/-- The receiver's view of the line. The recessive run stands in SEEKING, the bits read so far in
RECEIVING; kind, length and the run in the end field are worked out from those bits (05, R87, R88). -/
inductive Line where
  | stopped
  | seeking (run : Nat)
  | idle
  | receiving (bits : List Bool)
  deriving DecidableEq, Repr

/-- The phase of an attempt (05, R93, R94). -/
inductive AttemptPhase where
  | arbitrating
  | sending
  deriving DecidableEq, Repr

/-- The attempt in progress: its slot, its frame content, and the number of the frame bit on the
wire (05). -/
structure Attempt where
  slot  : TxSlot
  frame : Frame
  bit   : Nat
  phase : AttemptPhase
  deriving DecidableEq, Repr

/-- The link controller (05). `linkLow` is the station pulling LINK low. -/
structure Link where
  line        : Line
  attempt     : Option Attempt
  linkLow     : Bool
  rxErrors    : Word
  txFailures  : Word
  consecutive : Nat
  deriving DecidableEq, Repr

/-! ### Roster and cadence (07) -/

/-- The PULSE fields of a roster entry (07, 7.1). -/
structure Announced where
  cadence  : Cadence
  hushed   : Bool
  stirred  : Bool
  holdings : List (Group × Channel)
  deriving DecidableEq, Repr

/-- A roster entry (07, 7.1). -/
structure RosterEntry where
  present   : Bool
  lastHeard : Option Nat
  announced : Option Announced
  deriving DecidableEq, Repr

/-- The quiet timer (07, 7.7): stopped, held, or running. -/
inductive QuietTimer where
  | stopped
  | held
  | running (remaining : Nat)
  deriving DecidableEq, Repr

/-- Cadence control (07, 7.7). -/
structure CadenceControl where
  cadence : Cadence
  quiet   : QuietTimer
  stirred : Bool
  taken   : Bool
  deriving DecidableEq, Repr

/-! ### Station controller (08) -/

/-- The station state (08; codes in 11, R181). -/
inductive StationState where
  | setup
  | seeding
  | listen
  | online
  | muted
  | halted
  | offline
  deriving DecidableEq, Repr

/-- The station controller (08). -/
structure Controller where
  state        : StationState
  straps       : Straps
  block        : SetupBlock
  lockOpen     : Bool
  setupHold    : Option Nat
  listenTimer  : Option Nat
  muteTimer    : Option Nat
  leavePending : Bool
  deriving DecidableEq, Repr

/-! ### Event log (09) -/

/-- The origin of a KEY-DOWN (03, R66). -/
inductive Origin where
  | confirmed
  | adopted
  deriving DecidableEq, Repr

/-- The reason of a KEY-UP (09, R152). -/
inductive UpReason where
  | lift
  | stuck
  | reseed
  | fault
  | peerLost
  | left
  | recal
  | resync
  | cleared
  deriving DecidableEq, Repr

/-- The kind of an event record with the fields the kind needs (09, R152). -/
inductive Event where
  | keyDown (holder : Holder) (group : Group) (strength : Nat) (origin : Origin)
  | keyUp (holder : Holder) (group : Group) (reason : UpReason)
  | peerJoined (peer : Station)
  | peerLost (peer : Station)
  | peerLeft (peer : Station)
  | hushOn (own : Station) (deviation : Nat)
  | hushOff (own : Station) (deviation : Option Nat)
  | channelFault (own : Station) (channel : Channel)
  | channelRecovered (own : Station) (channel : Channel)
  | cadence (own : Station) (cadence : Cadence)
  | station (own : Station) (state : StationState)
  | lost (own : Station) (count : Byte)
  deriving DecidableEq, Repr

/-- An event record: its number, its time stamp, its kind and fields (09, R152). -/
structure Record where
  number : Byte
  stamp  : Word
  event  : Event
  deriving DecidableEq, Repr

/-- The event log with the millisecond clock and the RPT line it drives (09). -/
structure EventLog where
  records    : List Record
  nextNumber : Byte
  lostCount  : Byte
  clock      : Word
  /-- RPT driven low (09, R158). -/
  rptLow     : Bool
  deriving DecidableEq, Repr

/-! ### Host port (10) -/

/-- The result register's values (10, R172). -/
inductive Result where
  | done
  | alreadyPending
  | refusedState
  | badArgument
  | setupInvalid
  deriving DecidableEq, Repr

/-- The direction of a host transaction (10, R163). -/
inductive Direction where
  | write
  | read
  deriving DecidableEq, Repr

/-- The transaction in progress: its direction, whether the index byte is still to come, whether
the controller has left a byte unacknowledged, and whether the byte at 27H has been read (10, R164,
R165, R168). -/
structure Transaction where
  direction : Direction
  indexDue  : Bool
  nacked    : Bool
  readLast  : Bool
  deriving DecidableEq, Repr

/-- The event snapshot: a copy of the head record, or the empty marker (10, R168). -/
inductive EventSnapshot where
  | empty
  | record (r : Record)
  deriving DecidableEq, Repr

/-- The latches of the six two-byte values (10, R169). -/
structure Latches where
  clock      : Option Word
  rxErrors   : Option Word
  txFailures : Option Word
  stray      : Option Word
  abandoned  : Option Word
  cycle      : Option Word
  deriving DecidableEq, Repr

/-- What the port does with SDA: nothing, it acknowledges, or it sends bytes (10, R163 to R165). -/
inductive Sda where
  | released
  | acknowledged
  | sending
  deriving DecidableEq, Repr

/-- The host port (10). -/
structure HostPort where
  index          : BitVec 7
  cursorKind     : Byte
  cursorIndex    : Byte
  argument       : Byte
  result         : Result
  commandPending : Option Byte
  transaction    : Option Transaction
  /-- The 16 bytes of the record window as copied. -/
  recordSnapshot : Option (Vector Byte 16)
  eventSnapshot  : Option EventSnapshot
  latches        : Latches
  sda            : Sda
  /-- The byte last sent in the transaction (10, R165). -/
  byteSent       : Option Byte
  deriving DecidableEq, Repr

/-! ### The whole station -/

/-- The state of the station, with the queue of waiting commands. -/
structure State where
  /-- The commands that wait, first in, first out (the model's own). -/
  pending   : List Instr
  /-- The levels that the other stations give LINK in the bit times to come, the next one first,
  `true` for recessive; LINK is recessive beyond the end (the model's own input, log 4). -/
  wire      : List Bool
  /-- Held in reset (08, R136). -/
  inReset   : Bool
  /-- Microseconds passed since the last millisecond tick (the model's own). -/
  sinceTick : Nat
  front     : FrontEnd
  chans     : Vector Chan 16
  tracker   : Tracker
  table     : ClaimTable
  queue     : TxQueue
  link      : Link
  roster    : Vector RosterEntry 16
  cad       : CadenceControl
  ctrl      : Controller
  log       : EventLog
  host      : HostPort
  deriving DecidableEq, Repr

/-- Why the machine stops with a fault: the spec gives this part no event that stops it, so there is
no fault, and nothing raises one. -/
inductive Fault where
  deriving DecidableEq, Repr

/-- Why a command has no meaning. -/
inductive Refusal where
  /-- The command's row has no meaning yet; raised by an arm of `exec` alone. Safe: the machine
  stops. No arm raises it. -/
  | notModelled (mnemonic : String)
  deriving DecidableEq, Repr

/-! ### Values after full reset -/

/-- The sense front end after full reset (01, R9). DESIGN CHOICE (log 21): the scan list is empty until
scanning first starts; R9 names no value for it. -/
def resetFront : FrontEnd where
  scanList := []
  phase := none
  position := none
  conversion := none
  waitTimer := none
  cycle := 0#16

/-- A channel record that is OFF, with its fields absent and its counters 0 (02, R40, R41). -/
def offChan (setup : ChannelSetup) : Chan where
  setup := setup
  state := .off
  baseline := none
  count := none
  delta := none
  deviation := none
  touchDebounce := 0
  liftDebounce := 0
  drift := 0
  antiTouch := 0
  seed := none
  rail := 0
  inRange := none
  holdTimer := none

/-- The channel tracker's hush state and settings after full reset (02, R40). -/
def resetTracker : Tracker where
  hushed := false
  settle := none
  settings := settingsOf defaultSetupBlock

/-- The claim table after full reset (03, R68). -/
def resetTable : ClaimTable where
  entries := Vector.replicate 8 .free
  stray := 0#16
  abandoned := 0#16

/-- A group slot that holds nothing. -/
def emptySlot : GroupSlot where
  frame := none
  followUp := none

/-- The transmit queue after full reset, and whenever it is emptied (06, R118). -/
def emptyQueue : TxQueue where
  recal := false
  pulse := false
  renewal := false
  groups := Vector.replicate 8 emptySlot
  inFlight := none
  withdrawnInFlight := false
  intervalTimer := none

/-- The link controller after full reset (05, R102). -/
def resetLink : Link where
  line := .stopped
  attempt := none
  linkLow := false
  rxErrors := 0#16
  txFailures := 0#16
  consecutive := 0

/-- A roster entry that is ABSENT (07, R119). -/
def absentEntry : RosterEntry where
  present := false
  lastHeard := none
  announced := none

/-- Cadence control after full reset (07, R134). -/
def resetCadence : CadenceControl where
  cadence := .brisk
  quiet := .stopped
  stirred := false
  taken := false

/-- The station controller after full reset with the straps sampled (08, R136, R141). -/
def resetController (straps : Straps) : Controller where
  state := .setup
  straps := straps
  block := defaultSetupBlock
  lockOpen := true
  setupHold := if straps.autojoin then some setupHoldUs else none
  listenTimer := none
  muteTimer := none
  leavePending := false

/-- The event log after full reset (09, R161). -/
def resetLog : EventLog where
  records := []
  nextNumber := 0#8
  lostCount := 0#8
  clock := 0#16
  rptLow := false

/-- No value latched (10, R166). -/
def noLatches : Latches where
  clock := none
  rxErrors := none
  txFailures := none
  stray := none
  abandoned := none
  cycle := none

/-- The host port after full reset (10, R176). -/
def resetHost : HostPort where
  index := 0#7
  cursorKind := 0#8
  cursorIndex := 0#8
  argument := 0#8
  result := .done
  commandPending := none
  transaction := none
  recordSnapshot := none
  eventSnapshot := none
  latches := noLatches
  sda := .released
  byteSent := none

/-- The station right after a full reset that sampled `straps`, with nothing pending (08, R136). -/
def State.resetWith (straps : Straps) : State where
  pending := []
  wire := []
  inReset := false
  sinceTick := 0
  front := resetFront
  chans := Vector.ofFn fun c => offChan (channelSetupOf defaultSetupBlock c)
  tracker := resetTracker
  table := resetTable
  queue := emptyQueue
  link := resetLink
  roster := Vector.replicate 16 absentEntry
  cad := resetCadence
  ctrl := resetController straps
  log := resetLog
  host := resetHost

/-- DESIGN CHOICE (log 1): the strap pins of `State.reset` are all low: station 0, address value 0,
AUTOJOIN clear. The spec leaves the straps to the board; FULL_RESET samples any. -/
def resetStraps : Straps where
  station := 0
  address := 0
  autojoin := false

/-- The machine right after reset. -/
def State.reset : State := State.resetWith resetStraps

end Sys2Proof.Machine
end

