-- ==== Sys2Proof/Machine/Ops.lean ====
section
/-! DEFINITION. The operations every block shares: records handed to the event log, timers that run
down, changes of a channel record, and cadence control. -/

namespace Sys2Proof.Machine

/-- This station's number, as the straps gave it (08, R137). -/
def State.number (s : State) : Station := s.ctrl.straps.station

/-- The station is in ONLINE. -/
def State.online (s : State) : Bool := decide (s.ctrl.state = .online)

/-- The states in which the receiver runs and frames are taken (05, R87). -/
def receiving (st : StationState) : Bool :=
  match st with
  | .listen => true
  | .online => true
  | .muted => true
  | _ => false

/-- The states in which scanning runs (01, R6). -/
def scanning (st : StationState) : Bool :=
  match st with
  | .seeding => true
  | .listen => true
  | .online => true
  | .muted => true
  | _ => false

/-- While the station is held in reset no event reaches it (08, R136). -/
def outOfReset (effect : State → State) (s : State) : State := if s.inReset then s else effect s

/-! ### Counters -/

/-- A 16-bit counter that stops at 65535 (03, R65; 05, R102). -/
def satInc (n : Word) : Word := if n = 0xFFFF#16 then n else n + 1#16

/-- The lost count, which stops at 255 (09, R156). -/
def satIncByte (n : Byte) : Byte := if n = 0xFF#8 then n else n + 1#8

/-! ### Event log (09) -/

/-- A record handed to the log: admitted at the tail with the next number and the clock while the
log holds fewer than 32 records, else refused and counted as lost (09, R154, R156, R158). -/
def logPut (l : EventLog) (e : Event) : EventLog :=
  if l.records.length < Config.logCapacity then
    { l with
      records := l.records ++ [{ number := l.nextNumber, stamp := l.clock, event := e }]
      nextNumber := l.nextNumber + 1#8
      rptLow := true }
  else { l with lostCount := satIncByte l.lostCount }

/-- The head record removed, and RPT released when the log is then empty (09, R157, R158). -/
def logDropHead (l : EventLog) : EventLog :=
  { l with records := l.records.tail, rptLow := !l.records.tail.isEmpty }

/-- A take: the head is removed, then a LOST record is admitted when records were refused (09,
R157). -/
def logTake (own : Station) (l : EventLog) : EventLog :=
  let dropped := logDropHead l
  if l.lostCount = 0#8 then dropped
  else { logPut dropped (.lost own l.lostCount) with lostCount := 0#8 }

/-- A record handed to the event log. -/
def State.put (s : State) (e : Event) : State := { s with log := logPut s.log e }

/-- Records handed to the event log in order (09, R155). -/
def State.putAll (s : State) (es : List Event) : State := { s with log := es.foldl logPut s.log }

/-! ### Channel records -/

/-- Replace one channel record. -/
def State.setChan (s : State) (c : Channel) (r : Chan) : State := { s with chans := s.chans.set c r }

/-- A record is on the claim side (04, R69). -/
def claimSide (st : ChanState) : Bool :=
  match st with
  | .candidate => true
  | .contending => true
  | .pressed => true
  | .suppressed => true
  | _ => false

/-- A record enters IDLE from a state other than SEEDING (02, R33); no hold timer runs there. -/
def toIdle (r : Chan) : Chan :=
  { r with state := .idle, touchDebounce := 0, liftDebounce := 0, antiTouch := 0, holdTimer := none }

/-- A record enters SEEDING with its baseline kept (02, R22). -/
def toSeeding (r : Chan) : Chan :=
  { r with
    state := .seeding, delta := none, deviation := none, touchDebounce := 0, liftDebounce := 0
    drift := 0, antiTouch := 0, seed := some (0, 0), holdTimer := none }

/-- A FAULTED record that re-seeds also loses its in-range counter and rail run (01, R15, R16). -/
def faultedToSeeding (r : Chan) : Chan := { toSeeding r with rail := 0, inRange := none }

/-- A record passes to SUPPRESSED (04, R83); no hold timer runs there (03, R62). -/
def toSuppressed (r : Chan) : Chan := { r with state := .suppressed, holdTimer := none }

/-- A key channel: enabled, and not the reference host (01, R1). -/
def State.isKey (s : State) (c : Channel) : Bool :=
  s.chans[c].setup.enabled && decide (s.tracker.settings.refHost ≠ some c)

/-! ### Time -/

/-- A running timer after `us` microseconds: it stands at 0 from its end until its expiry, which is
an event of its own (00_scope, Conventions). -/
def runDown (us : Nat) (t : Option Nat) : Option Nat := t.map (· - us)

/-- A group entry's timers after `us` microseconds. -/
def entryRunDown (us : Nat) : Entry → Entry
  | .free => .free
  | .contested h st abandon contest => .contested h st (abandon - us) (runDown us contest)
  | .owned h st since => .owned h st since
  | .guarded remaining => .guarded (remaining - us)

/-- The quiet timer after `us` microseconds; a held timer does not run (07, R130). -/
def quietRunDown (us : Nat) : QuietTimer → QuietTimer
  | .stopped => .stopped
  | .held => .held
  | .running remaining => .running (remaining - us)

/-- `us` microseconds pass: every running timer and the conversion in progress run down, and
nothing else changes. -/
def elapse (us : Nat) (s : State) : State :=
  { s with
    front := { s.front with
      conversion := s.front.conversion.map fun p => (p.1, p.2 - us)
      waitTimer := runDown us s.front.waitTimer }
    chans := each (fun _ r => { r with holdTimer := runDown us r.holdTimer }) s.chans
    table := { s.table with entries := each (fun _ e => entryRunDown us e) s.table.entries }
    queue := { s.queue with intervalTimer := runDown us s.queue.intervalTimer }
    roster := each (fun _ e => { e with lastHeard := runDown us e.lastHeard }) s.roster
    cad := { s.cad with quiet := quietRunDown us s.cad.quiet }
    ctrl := { s.ctrl with
      setupHold := runDown us s.ctrl.setupHold
      listenTimer := runDown us s.ctrl.listenTimer
      muteTimer := runDown us s.ctrl.muteTimer } }

/-! ### Cadence control (07) -/

/-- The group entry is CONTESTED or OWNED. -/
def entryHeld : Entry → Bool
  | .contested _ _ _ _ => true
  | .owned _ _ _ => true
  | _ => false

/-- Some entry is CONTESTED or OWNED, as the claim table reports it (03, R45). -/
def tableBusy (entries : Vector Entry 8) : Bool := (List.finRange 8).any fun g => entryHeld entries[g]

/-- The quiet timer started again with the full quiet period, or held while an entry is CONTESTED
or OWNED (07, R128, R130). -/
def quietAfresh (s : State) : QuietTimer :=
  if tableBusy s.table.entries then .held else .running s.tracker.settings.quietUs

/-- A PULSE request at the PULSE slot; `routine` for the interval timer's (06, R113). -/
def pulseRequest (routine : Bool) (q : TxQueue) : TxQueue :=
  if !q.pulse then { q with pulse := true }
  else if q.inFlight = some .pulse ∧ routine = false then { q with renewal := true }
  else q

/-- A PULSE request, refused outside ONLINE (06, R113, R118). -/
def State.requestPulse (s : State) (routine : Bool) : State :=
  if s.online then { s with queue := pulseRequest routine s.queue } else s

/-- A change of cadence: the CADENCE record and a PULSE request (07, R129). -/
def changeCadence (c : Cadence) (s : State) : State :=
  (({ s with cad := { s.cad with cadence := c } }).put (.cadence s.number c)).requestPulse false

/-- Cadence control after an activity event has turned a SLACK station BRISK: the quiet timer
afresh, and for local activity the stirred flag set and the taken mark cleared (07, R128, R132). -/
def stir (isLocal : Bool) (s : State) : State :=
  { s with cad := { s.cad with
      quiet := quietAfresh s
      stirred := s.cad.stirred || isLocal
      taken := s.cad.taken && !isLocal } }

/-- An activity event (07, R128). -/
def activity (isLocal : Bool) (s : State) : State :=
  stir isLocal (if s.cad.cadence = .slack then changeCadence .brisk s else s)

/-- The claim table's report at a change of the table (07, R130). -/
def reportTable (s : State) : State :=
  if s.cad.cadence = .brisk then { s with cad := { s.cad with quiet := quietAfresh s } } else s

end Sys2Proof.Machine
end

