-- ==== Sys2Proof/Machine/Queue.lean ====
section
/-! DEFINITION. The transmit queue: requests, withdrawal, the choice at an attempt start, and the
ends of an attempt (06). -/

namespace Sys2Proof.Machine

/-- The group slot's frame is the one in flight. -/
def groupInFlight (q : TxQueue) (g : Group) : Bool := decide (q.inFlight = some (.group g))

/-- The local channel a group frame names (06, R105). -/
def frameChannel : GroupFrame → Channel
  | .claim c => c
  | .confirm c => c
  | .release c _ => c

/-- The group slot's frame names channel `c`. -/
def frameNames (sl : GroupSlot) (c : Channel) : Bool :=
  match sl.frame with
  | some f => decide (frameChannel f = c)
  | none => false

/-- The group slot's follow-up names channel `c`. -/
def followUpNames (sl : GroupSlot) (c : Channel) : Bool :=
  match sl.followUp with
  | some f => decide (f.1 = c)
  | none => false

/-- Replace one group slot. -/
def setSlot (q : TxQueue) (g : Group) (sl : GroupSlot) : TxQueue :=
  { q with groups := q.groups.set g sl }

/-! ### Requests -/

/-- A CONFIRM request for the holder `c` of group `g` (06, R109). -/
def confirmRequest (g : Group) (c : Channel) (q : TxQueue) : TxQueue :=
  match q.groups[g].frame with
  | none => setSlot q g { q.groups[g] with frame := some (.confirm c) }
  | some (.claim _) =>
    if groupInFlight q g then q else setSlot q g { q.groups[g] with frame := some (.confirm c) }
  | some _ => q

/-- A RELEASE request for local channel `c` of group `g` (06, R110). -/
def releaseRequest (g : Group) (c : Channel) (reason : Reason) (q : TxQueue) : TxQueue :=
  let sl := q.groups[g]
  let flying := groupInFlight q g
  if (flying && q.withdrawnInFlight) || sl.followUp.isSome then q
  else match sl.frame with
    | none => setSlot q g { sl with frame := some (.release c reason) }
    | some (.confirm c') =>
      if c' ≠ c then q
      else if flying then setSlot q g { sl with followUp := some (c, reason) }
      else setSlot q g { sl with frame := some (.release c reason) }
    | some (.claim c') =>
      if flying then setSlot q g { sl with followUp := some (c, reason) }
      else if c' = c then setSlot q g { sl with frame := none }
      else setSlot q g { sl with frame := some (.release c reason) }
    | some (.release _ _) => q

/-- A CONFIRM request, refused outside ONLINE (06, R118). -/
def State.requestConfirm (s : State) (g : Group) (c : Channel) : State :=
  if s.online then { s with queue := confirmRequest g c s.queue } else s

/-- A RELEASE request, refused outside ONLINE (06, R118). -/
def State.requestRelease (s : State) (g : Group) (c : Channel) (reason : Reason) : State :=
  if s.online then { s with queue := releaseRequest g c reason s.queue } else s

/-! ### Withdrawal -/

/-- A slot's frame withdrawn: removed when it is not in flight, else the attempt runs on and any
follow-up is removed (06, R111). -/
def withdrawFrame (g : Group) (q : TxQueue) : TxQueue :=
  if groupInFlight q g then
    { setSlot q g { q.groups[g] with followUp := none } with withdrawnInFlight := true }
  else setSlot q g { q.groups[g] with frame := none }

/-- A withdrawal for channel `c` of group `g`: the slot frame and the follow-up that name it (06,
R111). -/
def withdrawFor (g : Group) (c : Channel) (q : TxQueue) : TxQueue :=
  let q1 := if followUpNames q.groups[g] c then setSlot q g { q.groups[g] with followUp := none } else q
  if frameNames q.groups[g] c then withdrawFrame g q1 else q1

/-- A withdrawal for a whole group (06, R111). -/
def withdrawGroup (g : Group) (q : TxQueue) : TxQueue :=
  let q1 := setSlot q g { q.groups[g] with followUp := none }
  if q.groups[g].frame.isSome then withdrawFrame g q1 else q1

/-- What a RECAL heard drops: the RECAL slot, every group slot and every follow-up (03, R56; 06,
R112). -/
def dropForRecal (q : TxQueue) : TxQueue :=
  { q with recal := false, groups := Vector.replicate 8 emptySlot }

/-! ### The choice at an attempt start -/

/-- The first group, in ascending order, whose slot frame is of the kind tested. -/
def firstGroup (q : TxQueue) (kind : GroupFrame → Bool) : Option Group :=
  (List.finRange 8).find? fun g =>
    match q.groups[g].frame with
    | some f => kind f
    | none => false

/-- The frame is a RELEASE. -/
def isRelease : GroupFrame → Bool
  | .release _ _ => true
  | _ => false

/-- The frame is a CONFIRM. -/
def isConfirm : GroupFrame → Bool
  | .confirm _ => true
  | _ => false

/-- The frame is a CLAIM. -/
def isClaim : GroupFrame → Bool
  | .claim _ => true
  | _ => false

/-- The slot attempted next: RECAL, then RELEASEs, CONFIRMs and CLAIMs in ascending group order,
then the PULSE (06, R106). -/
def chooseSlot (q : TxQueue) : Option TxSlot :=
  if q.recal then some .recal
  else match firstGroup q isRelease with
    | some g => some (.group g)
    | none => match firstGroup q isConfirm with
      | some g => some (.group g)
      | none => match firstGroup q isClaim with
        | some g => some (.group g)
        | none => if q.pulse then some .pulse else none

/-! ### The ends of an attempt -/

/-- The reason a promoted follow-up carries at a success: a WITHDRAWN recorded behind the channel's
own CONFIRM becomes LIFT, every other reason is kept (04, R82; 06, R115). -/
def promotedReason (heard : Frame) (c : Channel) (reason : Reason) : Reason :=
  match heard with
  | .confirm _ _ c' => if c' = c ∧ reason = .withdrawn then .lift else reason
  | _ => reason

/-- The marks cleared at an attempt's end. -/
def clearFlight (q : TxQueue) : TxQueue := { q with inFlight := none, withdrawnInFlight := false }

/-- The group slot after the success of its frame (06, R115). -/
def slotAtSuccess (heard : Frame) (withdrawn : Bool) (sl : GroupSlot) : GroupSlot :=
  if withdrawn then emptySlot
  else match sl.followUp with
    | none => emptySlot
    | some (c, reason) => { frame := some (.release c (promotedReason heard c reason)), followUp := none }

/-- The queue at the success of the slot in flight (06, R115). -/
def queueSuccess (slot : TxSlot) (heard : Frame) (q : TxQueue) : TxQueue :=
  match slot with
  | .recal => clearFlight { q with recal := false }
  | .pulse => clearFlight (if q.renewal then { q with renewal := false } else { q with pulse := false })
  | .group g => clearFlight (setSlot q g (slotAtSuccess heard q.withdrawnInFlight q.groups[g]))

/-- The group slot after a failure or a loss of arbitration (06, R116). -/
def slotAtEnd (withdrawn : Bool) (sl : GroupSlot) : GroupSlot :=
  if withdrawn then emptySlot
  else match sl.frame, sl.followUp with
    | some (.claim c), some (c', reason) =>
      if c' = c then emptySlot else { frame := some (.release c' reason), followUp := none }
    | some (.confirm _), some (c', reason) => { frame := some (.release c' reason), followUp := none }
    | _, _ => sl

/-- The queue at a failure or a loss of arbitration of the slot in flight (06, R116). -/
def queueEnd (slot : TxSlot) (q : TxQueue) : TxQueue :=
  match slot with
  | .recal => clearFlight q
  | .pulse => clearFlight { q with renewal := false }
  | .group g => clearFlight (setSlot q g (slotAtEnd q.withdrawnInFlight q.groups[g]))

end Sys2Proof.Machine
end

