-- ==== Sys2Proof/Machine/Keys.lean ====
section
/-! DEFINITION. The key state unit: strength, the evaluation of a group's local candidates, and the
frames asked for when a channel leaves the claim side (04). -/

namespace Sys2Proof.Machine

/-- Strength: the delta clipped to 1 to 1023; a channel without a delta has none (02, R21). -/
def strengthOf (r : Chan) : Option Nat := r.delta.map fun d => max 1 (min Config.maxStrength d.toNat)

/-- The group slot holds a CLAIM for `c` that is in flight. -/
def claimInFlight (q : TxQueue) (g : Group) (c : Channel) : Bool :=
  groupInFlight q g && decide (q.groups[g].frame = some (.claim c))

/-- A local candidate that takes part in the evaluation of group `g`: its CLAIM is not in flight
(04, R72). -/
def evaluated (s : State) (g : Group) (c : Channel) : Bool :=
  decide (s.chans[c].state = .candidate) && decide (s.chans[c].setup.group = g)
    && !claimInFlight s.queue g c

/-- The entry suppresses a candidate of the given strength (04, R72). -/
def suppresses (e : Entry) (strength : Option Nat) : Bool :=
  match e with
  | .owned _ _ _ => true
  | .contested _ held _ _ => match strength with
    | some st => decide (st ≤ held)
    | none => false
  | _ => false

/-- The entry leaves a candidate of the given strength eligible (04, R72). -/
def admitsClaim (e : Entry) (strength : Option Nat) : Bool :=
  match e, strength with
  | .free, some _ => true
  | .contested _ held _ _, some st => decide (held < st)
  | _, _ => false

/-- The stronger of two channels; between equals the lower number, which comes first (04, R73). -/
def stronger (s : State) (best : Option Channel) (c : Channel) : Option Channel :=
  match best with
  | none => some c
  | some b => if (strengthOf s.chans[b]).getD 0 < (strengthOf s.chans[c]).getD 0 then some c else some b

/-- The eligible candidates of a group (04, R72). -/
def eligible (s : State) (g : Group) : List Channel :=
  (List.finRange 16).filter fun c =>
    evaluated s g c && admitsClaim s.table.entries[g] (strengthOf s.chans[c])

/-- The group's choice (04, R73). -/
def choice (s : State) (g : Group) : Option Channel := (eligible s g).foldl (stronger s) none

/-- A channel record after the evaluation of its group (04, R72). -/
def evaluatedChan (s : State) (c : Channel) (r : Chan) : Chan :=
  if evaluated s r.setup.group c
      && suppresses s.table.entries[r.setup.group] (strengthOf r) then toSuppressed r
  else r

/-- The queued CLAIM that an evaluation withdraws: of a candidate it suppresses, or any while the
entry is in GUARD (04, R72). -/
def claimWithdrawn (s : State) (g : Group) : Bool :=
  match s.queue.groups[g].frame with
  | some (.claim c) => !groupInFlight s.queue g
      && ((match s.table.entries[g] with | .guarded _ => true | _ => false)
        || (evaluated s g c && suppresses s.table.entries[g] (strengthOf s.chans[c])))
  | _ => false

/-- A CLAIM request for `c` at its group slot (06, R108). -/
def claimRequest (flying : Bool) (c : Channel) (sl : GroupSlot) : GroupSlot :=
  match sl.frame with
  | none => { sl with frame := some (.claim c) }
  | some (.claim _) => if flying then sl else { sl with frame := some (.claim c) }
  | some _ => sl

/-- A group slot after the evaluation of its group (04, R72, R73). -/
def evaluatedSlot (s : State) (g : Group) : GroupSlot :=
  let kept := if claimWithdrawn s g then { s.queue.groups[g] with frame := none } else s.queue.groups[g]
  match choice s g with
  | none => kept
  | some c => claimRequest (groupInFlight s.queue g) c kept

/-- The groups chosen by `which` are evaluated; nothing is evaluated outside ONLINE (04, R71 to R73).
A group's evaluation reads and changes only its own channels, entry and slot, so the ascending order
of R71 leaves no trace and the groups are evaluated together. -/
def evaluate (which : Group → Bool) (s : State) : State :=
  if s.online then
    { s with
      chans := each (fun c r => if which r.setup.group then evaluatedChan s c r else r) s.chans
      queue := { s.queue with
        groups := each (fun g sl => if which g then evaluatedSlot s g else sl) s.queue.groups } }
  else s

/-- The contest timer of group `g` stopped when its holder is the local channel `c` (03, R50). -/
def stopContest (g : Group) (c : Channel) (s : State) : State :=
  match s.table.entries[g] with
  | .contested h st abandon _ =>
    if h = { station := s.number, channel := c } then
      { s with table := { s.table with entries := s.table.entries.set g (.contested h st abandon none) } }
    else s
  | _ => s

/-- The frames for a channel that leaves its key state by a lift (reason WITHDRAWN), at HUSH-ON, by a
rail fault or by a RESEED; the record itself is moved by the caller (01, R13; 02, R36; 04, R75, R77,
R80, R81). A lift of a PRESSED channel is sent as LIFT. -/
def leaveClaimSide (reason : Reason) (c : Channel) (s : State) : State :=
  let g := s.chans[c].setup.group
  match s.chans[c].state with
  | .candidate =>
    if s.queue.groups[g].frame = some (.claim c) then s.requestRelease g c reason else s
  | .contending => (stopContest g c s).requestRelease g c reason
  | .pressed => s.requestRelease g c (if reason = .withdrawn then .lift else reason)
  | _ => s

/-- At an attempt end the CONFIRM is requested again for a local holder in CONTENDING whose contest
timer has stopped and for which no CONFIRM stands (04, R76; 06, R117). -/
def confirmAgain (g : Group) (s : State) : State :=
  match s.table.entries[g] with
  | .contested h _ _ none =>
    if h.station = s.number ∧ s.chans[h.channel].state = .contending
        ∧ s.queue.groups[g].frame ≠ some (.confirm h.channel) then
      s.requestConfirm g h.channel
    else s
  | _ => s

/-- The group a transmit slot belongs to. -/
def slotGroup : TxSlot → Option Group
  | .group g => some g
  | _ => none

/-- What an attempt end hands on: the CONFIRM requested again, then the group evaluated (06, R117). -/
def attemptEndHandled (slot : TxSlot) (s : State) : State :=
  match slotGroup slot with
  | some g => evaluate (fun g' => decide (g' = g)) (confirmAgain g s)
  | none => s

end Sys2Proof.Machine
end

