-- ==== Sys2Proof/Machine/Claims.lean ====
section
/-! DEFINITION. The claim table: what each frame heard does to the group entries, to this station's
own channels and to the event log (03). -/

namespace Sys2Proof.Machine

/-- The holder is one of this station's own channels. -/
def State.isLocal (s : State) (h : Holder) : Bool := decide (h.station = s.number)

/-- Replace one group entry. -/
def State.setEntry (s : State) (g : Group) (e : Entry) : State :=
  { s with table := { s.table with entries := s.table.entries.set g e } }

/-- The stray frame counter goes up by one (03, R65). -/
def strayFrame (s : State) : State := { s with table := { s.table with stray := satInc s.table.stray } }

/-- What R45 counts as a change of an entry: its state, holder and strength. -/
inductive Standing where
  | free
  | contested (holder : Holder) (strength : Nat)
  | owned (holder : Holder) (strength : Nat)
  | guarded
  deriving DecidableEq, Repr

/-- The standing of an entry, without its timers (03, R45). -/
def standing : Entry → Standing
  | .free => .free
  | .contested h st _ _ => .contested h st
  | .owned h st _ => .owned h st
  | .guarded _ => .guarded

/-- The groups whose entries differ in state, holder or strength (03, R45). -/
def entryChanged (old new : Vector Entry 8) (g : Group) : Bool :=
  decide (standing old[g] ≠ standing new[g])

/-- Some group's entry differs. -/
def anyChanged (old new : Vector Entry 8) : Bool := (List.finRange 8).any (entryChanged old new)

/-- What the claim table hands on at an event that changed entries: the report to cadence control
and the evaluation of the changed groups (03, R45; 04, R71). -/
def handOnChanges (old : Vector Entry 8) (s : State) : State :=
  evaluate (entryChanged old s.table.entries)
    (if anyChanged old s.table.entries then reportTable s else s)

/-! ### CLAIM heard -/

/-- A channel in CONTENDING that loses its holding passes to SUPPRESSED (03, R47, R53). -/
def loseContest (c : Channel) (s : State) : State :=
  if s.chans[c].state = .contending then s.setChan c (toSuppressed s.chans[c]) else s

/-- What a displaced or abandoned holder of group `g` loses when it is local: its contest and its
queued frames (03, R47, R53). -/
def holderLoses (g : Group) (h : Holder) (s : State) : State :=
  if s.isLocal h then
    let s1 := loseContest h.channel s
    { s1 with queue := withdrawFor g h.channel s1.queue }
  else s

/-- A CLAIM that makes `h` the holder of `g`: CONTESTED with the frame's strength and the abandon
timer from this frame; a local claimant in CANDIDATE passes to CONTENDING with its contest timer
started (03, R46, R47, R49). -/
def claimTakes (g : Group) (h : Holder) (strength : Nat) (s : State) : State :=
  if s.isLocal h && decide (s.chans[h.channel].state = .candidate) then
    (s.setEntry g (.contested h strength abandonUs (some s.tracker.settings.contestUs))).setChan
      h.channel { s.chans[h.channel] with state := .contending }
  else s.setEntry g (.contested h strength abandonUs none)

/-- A CLAIM refused: a local claimant in CANDIDATE passes to SUPPRESSED (03, R48). -/
def claimRefused (h : Holder) (s : State) : State :=
  if s.isLocal h && decide (s.chans[h.channel].state = .candidate) then
    s.setChan h.channel (toSuppressed s.chans[h.channel])
  else s

/-- A CLAIM heard (03, R46 to R49). -/
def claimHeard (h : Holder) (g : Group) (strength : Nat) (s : State) : State :=
  match s.table.entries[g] with
  | .free => claimTakes g h strength s
  | .guarded _ => claimTakes g h strength s
  | .contested old held _ _ =>
    if h = old then claimRefused h (strayFrame s)
    else if held < strength then claimTakes g h strength (holderLoses g old s)
    else claimRefused h s
  | .owned old _ _ => if h = old then claimRefused h (strayFrame s) else claimRefused h s

/-! ### CONFIRM and RELEASE heard -/

/-- A local holder in CONTENDING passes to PRESSED with its hold timer started (03, R52; 04, R79). -/
def press (h : Holder) (s : State) : State :=
  if s.isLocal h && decide (s.chans[h.channel].state = .contending) then
    s.setChan h.channel
      { s.chans[h.channel] with state := .pressed, holdTimer := s.tracker.settings.holdUs }
  else s

/-- A CONFIRM heard (03, R52). -/
def confirmHeard (h : Holder) (g : Group) (s : State) : State :=
  match s.table.entries[g] with
  | .contested old held _ _ =>
    if h = old then
      press h ((s.setEntry g (.owned h held s.log.clock)).put (.keyDown h g held .confirmed))
    else strayFrame s
  | _ => strayFrame s

/-- The KEY-UP reason of a RELEASE heard for an OWNED group; WITHDRAWN is logged as LIFT (03, R54). -/
def upReason : Reason → UpReason
  | .lift => .lift
  | .withdrawn => .lift
  | .stuck => .stuck
  | .reseed => .reseed
  | .fault => .fault

/-- A RELEASE heard (03, R54). -/
def releaseHeard (h : Holder) (g : Group) (reason : Reason) (s : State) : State :=
  match s.table.entries[g] with
  | .contested old _ _ _ => if h = old then s.setEntry g (.guarded guardUs) else strayFrame s
  | .owned old _ _ =>
    if h = old then (s.setEntry g (.guarded guardUs)).put (.keyUp h g (upReason reason))
    else strayFrame s
  | _ => strayFrame s

/-! ### Entries that end together -/

/-- The KEY-UP records, in ascending group order, of the OWNED entries whose holder is chosen (03,
R45, R66). -/
def keyUps (which : Holder → Bool) (reason : UpReason) (entries : Vector Entry 8) : List Event :=
  (List.finRange 8).filterMap fun g =>
    match entries[g] with
    | .owned h _ _ => if which h then some (.keyUp h g reason) else none
    | _ => none

/-- The entry passes to FREE when its holder is chosen; an entry without a holder stays. -/
def freeHeldBy (which : Holder → Bool) (e : Entry) : Entry :=
  match e with
  | .contested h _ _ _ => if which h then .free else e
  | .owned h _ _ => if which h then .free else e
  | _ => e

/-- Every entry passes to FREE, after the KEY-UP records of the chosen OWNED entries (03, R56, R64). -/
def emptyTable (which : Holder → Bool) (reason : UpReason) (s : State) : State :=
  let s1 := s.putAll (keyUps which reason s.table.entries)
  { s1 with table := { s1.table with entries := Vector.replicate 8 .free } }

/-- The table cleared: KEY-UP (CLEARED) for each group a local channel owned; entries held by peers
go without a record (03, R64). -/
def clearTable (s : State) : State := emptyTable s.isLocal .cleared s

/-- The entries a lost or leaving peer holds are freed (03, R63). -/
def freePeer (p : Station) (reason : UpReason) (s : State) : State :=
  let which := fun h : Holder => decide (h.station = p)
  let s1 := s.putAll (keyUps which reason s.table.entries)
  { s1 with table := { s1.table with entries := each (fun _ e => freeHeldBy which e) s1.table.entries } }

/-! ### Resync from a peer's PULSE -/

/-- The sender's pair for a group: the first that names it (03, R57). -/
def listed (holdings : List (Group × Channel)) (g : Group) : Option Channel :=
  (holdings.find? fun p => decide (p.1 = g)).map Prod.snd

/-- The sender's listing of another holder replaces the entry: the lower station number prevails,
and a station speaks for itself (03, R61). -/
def prevails (sender : Station) (old : Holder) : Bool :=
  decide (sender < old.station) || decide (sender = old.station)

/-- An entry after its comparison with the sender's pair for it (03, R58 to R61). -/
def resyncEntry (sender : Station) (pair : Option Channel) (clock : Word) (e : Entry) : Entry :=
  match pair with
  | none => match e with
    | .owned h _ _ => if h.station = sender then .free else e
    | _ => e
  | some c => match e with
    | .free => .owned { station := sender, channel := c } 0 clock
    | .guarded _ => .owned { station := sender, channel := c } 0 clock
    | .contested h st _ _ =>
      if h = { station := sender, channel := c } then .owned h st clock
      else if prevails sender h then .owned { station := sender, channel := c } 0 clock
      else e
    | .owned h _ _ =>
      if h = { station := sender, channel := c } then e
      else if prevails sender h then .owned { station := sender, channel := c } 0 clock
      else e

/-- The records of one group's resync, KEY-UP before KEY-DOWN (03, R58 to R61; 09, R155). -/
def resyncEvents (sender : Station) (pair : Option Channel) (g : Group) (e : Entry) : List Event :=
  match pair with
  | none => match e with
    | .owned h _ _ => if h.station = sender then [.keyUp h g .resync] else []
    | _ => []
  | some c =>
    let new : Holder := { station := sender, channel := c }
    match e with
    | .free => [.keyDown new g 0 .adopted]
    | .guarded _ => [.keyDown new g 0 .adopted]
    | .contested h st _ _ =>
      if h = new then [.keyDown h g st .adopted]
      else if prevails sender h then [.keyDown new g 0 .adopted]
      else []
    | .owned h _ _ =>
      if h = new then []
      else if prevails sender h then [.keyUp h g .resync, .keyDown new g 0 .adopted]
      else []

/-- The local channel that loses group `g` to a lower station's listing (03, R61, R62). -/
def resyncLoser (s : State) (sender : Station) (pair : Option Channel) (g : Group) : Option Channel :=
  match pair, s.table.entries[g] with
  | some c, .contested h _ _ _ =>
    if h ≠ { station := sender, channel := c } ∧ prevails sender h ∧ s.isLocal h then some h.channel else none
  | some c, .owned h _ _ =>
    if h ≠ { station := sender, channel := c } ∧ prevails sender h ∧ s.isLocal h then some h.channel else none
  | _, _ => none

/-- One group of a resync: the entry, its records, and what a local loser gives up without a RELEASE
(03, R57 to R62). -/
def resyncGroup (sender : Station) (holdings : List (Group × Channel)) (s : State) (g : Group) : State :=
  let pair := listed holdings g
  let e := s.table.entries[g]
  let s1 := match resyncLoser s sender pair g with
    | some c =>
      let s0 := if s.chans[c].state = ChanState.contending ∨ s.chans[c].state = ChanState.pressed then
        s.setChan c (toSuppressed s.chans[c]) else s
      { s0 with queue := withdrawGroup g s0.queue }
    | none => s
  (s1.setEntry g (resyncEntry sender pair s1.log.clock e)).putAll (resyncEvents sender pair g e)

/-- A peer's PULSE with its leaving flag clear repairs the table, group by group in ascending order
(03, R57). -/
def resync (sender : Station) (holdings : List (Group × Channel)) (s : State) : State :=
  (List.finRange 8).foldl (resyncGroup sender holdings) s

end Sys2Proof.Machine
end

