-- ==== Sys2Proof/Machine/Roster.lean ====
section
/-! DEFINITION. The roster: presence, announced fields, loss and leaving (07). -/

namespace Sys2Proof.Machine

/-- Replace one roster entry. -/
def State.setRoster (s : State) (p : Station) (e : RosterEntry) : State :=
  { s with roster := s.roster.set p e }

/-- The fields a PULSE gives its sender's roster entry (07, R121). -/
def announcedOf (p : PulseFields) : Announced where
  cadence := p.cadence
  hushed := p.hushed
  stirred := p.stirred
  holdings := p.holdings

/-- The entry of a peer heard, with the fields it then has: PRESENT, its last-heard timer started
again with the threshold of the cadence then announced (07, R120 to R122). -/
def heardEntry (announced : Option Announced) : RosterEntry where
  present := true
  lastHeard := some (lossThresholdUs (announced.map Announced.cadence))
  announced := announced

/-- A peer's frame, other than a leaving PULSE, makes it PRESENT; PEER-JOINED when it was ABSENT (07,
R120). -/
def peerHeard (p : Station) (announced : Option Announced) (s : State) : State :=
  let s1 := s.setRoster p (heardEntry announced)
  if s.roster[p].present then s1 else s1.put (.peerJoined p)

/-- A peer's leaving PULSE: a PRESENT peer becomes ABSENT with PEER-LEFT, and its groups are freed
(07, R124; 03, R63). -/
def peerLeaves (p : Station) (s : State) : State :=
  if s.roster[p].present then
    freePeer p .left ((s.setRoster p absentEntry).put (.peerLeft p))
  else s

/-- This station's own PULSE, heard while ONLINE, gives the own entry its fields (07, R125). -/
def ownPulseHeard (p : PulseFields) (s : State) : State :=
  if s.online then
    s.setRoster s.number { s.roster[s.number] with announced := some (announcedOf p) }
  else s

/-- What the roster takes from a frame (07, R120 to R125), with the freeing of a leaving peer's
groups. -/
def rosterHears (f : Frame) (s : State) : State :=
  if senderOf f = s.number then
    match f with
    | .pulse _ p => ownPulseHeard p s
    | _ => s
  else match f with
    | .pulse p fields =>
      if fields.leaving then peerLeaves p s else peerHeard p (some (announcedOf fields)) s
    | _ => peerHeard (senderOf f) s.roster[senderOf f].announced s

/-- Every entry ABSENT, without a record (07, R126). -/
def clearRoster (s : State) : State := { s with roster := Vector.replicate 16 absentEntry }

/-- The own entry's presence at a change into or out of ONLINE; its PULSE fields are absent (07,
R125). -/
def ownEntry (present : Bool) (s : State) : State :=
  s.setRoster s.number { present := present, lastHeard := none, announced := none }

end Sys2Proof.Machine
end

