-- ==== Sys2Proof/Machine/Life.lean ====
section
/-! DEFINITION. The front end's scan and the changes of station state with what each asks of the
blocks (01, R1 to R10; 02, R41, R42; 08). -/

namespace Sys2Proof.Machine

/-! ### The scan (01) -/

/-- The scan list: the reference slot when the reference is enabled, then the key channels in
ascending order (01, R1). -/
def scanListOf (s : State) : List Slot :=
  (if s.tracker.settings.refHost.isSome then [.reference] else [])
    ++ ((List.finRange 16).filter s.isKey).map Slot.channel

/-- The step setting of a slot: its record's, the reference host's for the reference slot (01, R2). -/
def slotStep (s : State) : Slot → Nat
  | .channel c => s.chans[c].setup.step
  | .reference => match s.tracker.settings.refHost with
    | some c => s.chans[c].setup.step
    | none => 0

/-- The length of a slot's conversion: (step + 1) × 0.4 ms (01, R2). -/
def conversionUs (s : State) (slot : Slot) : Nat := (slotStep s slot + 1) * conversionStepUs

/-- A conversion begins (01, R2, R3). -/
def beginConversion (slot : Slot) (s : State) : State :=
  { s with front := { s.front with
      phase := some .scan, position := some slot, conversion := some (slot, conversionUs s slot) } }

/-- The wait of the cadence in force (01, R4). -/
def waitUs (s : State) : Nat :=
  match s.cad.cadence with
  | .brisk => s.tracker.settings.briskWaitUs
  | .slack => s.tracker.settings.slackWaitUs

/-- A scan phase ends: the cycle counter advances and the wait phase begins (01, R3 to R5). -/
def endScan (s : State) : State :=
  { s with front := { s.front with
      phase := some .wait, position := none, conversion := none
      waitTimer := some (waitUs s), cycle := s.front.cycle + 1#16 } }

/-- A scan phase begins at the first entry of the scan list; with an empty list it ends at once (01,
R3). -/
def beginScan (s : State) : State :=
  let s1 := { s with front := { s.front with waitTimer := none } }
  match s.front.scanList with
  | [] => endScan s1
  | slot :: _ => beginConversion slot s1

/-- The entry of the scan list after a slot. -/
def nextSlot : List Slot → Slot → Option Slot
  | a :: b :: rest, x => if a = x then some b else nextSlot (b :: rest) x
  | _, _ => none

/-- The scan proceeds after a slot's count has been handed over (01, R3). -/
def scanProceeds (slot : Slot) (s : State) : State :=
  match nextSlot s.front.scanList slot with
  | some next => beginConversion next s
  | none => endScan s

/-- Scanning starts: the list built, the cycle counter 0, a scan phase begun (01, R6, R10). -/
def startScanning (s : State) : State :=
  beginScan { s with front := { s.front with scanList := scanListOf s, cycle := 0#16 } }

/-- Scanning stops: the conversion in progress is abandoned and the cycle counter kept (01, R6, R7). -/
def stopScanning (s : State) : State :=
  { s with front := { s.front with
      phase := none, position := none, conversion := none, waitTimer := none } }

/-! ### The tracker at a start and a stop (02) -/

/-- A record when scanning starts: its setup values from the block; a key channel and the reference
record enter SEEDING with baseline, rail run and in-range counter gone and the count kept; any other
record is OFF (02, R41; 01, R10). -/
def startedChan (isScanned : Bool) (setup : ChannelSetup) (r : Chan) : Chan :=
  if isScanned then
    { faultedToSeeding r with setup := setup, baseline := none }
  else offChan setup

/-- The channel tracker at a start or restart (02, R41): settings, setup values and records; hush is
cleared without an event. -/
def startTracker (s : State) : State :=
  let settings := settingsOf s.ctrl.block
  { s with
    chans := each (fun c r =>
      let setup := channelSetupOf s.ctrl.block c
      startedChan (setup.enabled || decide (settings.refHost = some c)) setup r) s.chans
    tracker := { hushed := false, settle := none, settings := settings } }

/-- The channel tracker when scanning stops: an ARMING record returns to IDLE and hush ends without
an event (02, R42). -/
def stopTracker (s : State) : State :=
  { s with
    chans := each (fun _ r => if r.state = .arming then toIdle r else r) s.chans
    tracker := { s.tracker with hushed := false, settle := none } }

/-- Every claim-side channel returns to IDLE when the station leaves ONLINE (04, R84). -/
def keysToIdle (s : State) : State :=
  { s with chans := each (fun _ r => if claimSide r.state then toIdle r else r) s.chans }

/-! ### Other blocks at a change of station state -/

/-- The transmit queue emptied (06, R118). -/
def emptyTheQueue (s : State) : State := { s with queue := emptyQueue }

/-- The receiver stopped, a frame in assembly dropped and an attempt cut off with LINK released (05,
R87, R100). -/
def stopReceiver (s : State) : State :=
  { s with link := { s.link with line := .stopped, attempt := none, linkLow := false } }

/-- The consecutive failure count set to 0 (05, R101). -/
def clearFailureRun (s : State) : State := { s with link := { s.link with consecutive := 0 } }

/-- The new station state: LEAVE pending is cleared at every change (08, R147), the listen and mute
timers run in LISTEN and MUTED alone (08, R144, R146). -/
def setStation (st : StationState) (s : State) : State :=
  { s with ctrl := { s.ctrl with
      state := st
      listenTimer := if st = .listen then some listenUs else none
      muteTimer := if st = .muted then some muteUs else none
      leavePending := false } }

/-- The STATION record of the new state (08, R135). -/
def logStation (st : StationState) (s : State) : State := s.put (.station s.number st)

/-! ### The changes (08) -/

/-- From SEEDING or MUTED into LISTEN; from SEEDING the receiver starts, seeking (08, R144; 05,
R87). -/
def enterListen (s : State) : State :=
  let s1 := if s.ctrl.state = .seeding then { s with link := { s.link with line := .seeking 0 } } else s
  logStation .listen (setStation .listen s1)

/-- No channel record and no reference record is in SEEDING (02, R25). DESIGN CHOICE (log 20): a record
that recovers from FAULTED while the station is in SEEDING counts, as R25 and R143 say in so many words; R15
says that a recovering channel does not hold the station there. -/
def noneSeeding (s : State) : Bool :=
  (List.finRange 16).all fun c => decide (s.chans[c].state ≠ .seeding)

/-- The tracker's report: a station in SEEDING passes to LISTEN once no record seeds (02, R25; 08,
R143). -/
def seedingReport (s : State) : State :=
  if s.ctrl.state = .seeding ∧ noneSeeding s then enterListen s else s

/-- Cadence control at a change into SEEDING: BRISK, the quiet timer started with the full quiet
period, flag and mark cleared (07, R134). -/
def startCadence (s : State) : State :=
  { s with cad := {
    cadence := .brisk, quiet := .running s.tracker.settings.quietUs, stirred := false, taken := false } }

/-- The CADENCE (BRISK) record of a change into SEEDING from SLACK (07, R134). -/
def logCadenceStart (was : Cadence) (s : State) : State :=
  if was = .slack then s.put (.cadence s.number .brisk) else s

/-- The change into SEEDING, by a JOIN, the setup hold expiry or a RESTART (08, R142, R151). The
records are admitted as R135 orders them: KEY-UP (CLEARED), STATION, CADENCE. -/
def enterSeeding (s : State) : State :=
  let cleared := stopReceiver (emptyTheQueue (clearRoster (clearTable s)))
  let moved := setStation .seeding
    { cleared with ctrl := { cleared.ctrl with lockOpen := false, setupHold := none } }
  seedingReport (logCadenceStart s.cad.cadence
    (logStation .seeding (startScanning (startCadence (startTracker moved)))))

/-- The change from LISTEN into ONLINE (08, R145). -/
def enterOnline (s : State) : State :=
  let s1 := clearFailureRun (ownEntry true (setStation .online s))
  let s2 := { s1 with queue := { s1.queue with intervalTimer := none } }
  evaluate (fun _ => true) (logStation .online (s2.requestPulse false))

/-- The change from ONLINE into MUTED (08, R146). -/
def enterMuted (s : State) : State :=
  let s1 := clearFailureRun (ownEntry false (keysToIdle (emptyTheQueue (clearTable s))))
  reportTable (logStation .muted (setStation .muted s1))

/-- The change into HALTED or OFFLINE (08, R150). Key states held in ONLINE return to IDLE; a
candidate waiting in another state keeps its state through the stop (04, R84). -/
def enterStopped (st : StationState) (s : State) : State :=
  let s1 := clearRoster (emptyTheQueue (clearTable s))
  let s2 := if s.ctrl.state = .online then keysToIdle s1 else s1
  let s3 := clearFailureRun (stopReceiver (stopTracker (stopScanning s2)))
  let s4 := { s3 with cad := { s3.cad with quiet := .stopped } }
  logStation st (setStation st s4)

/-- RESTART: the four counters and the failure run at 0, then the change into SEEDING (08, R151; 05,
R102; 03, R68). -/
def restartStation (s : State) : State :=
  enterSeeding
    { s with
      table := { s.table with stray := 0#16, abandoned := 0#16 }
      link := { s.link with rxErrors := 0#16, txFailures := 0#16, consecutive := 0 } }

end Sys2Proof.Machine
end

