-- ==== Sys2Proof/Machine/Flags.lean ====
section
/-! DEFINITION. What the host reads: the status byte, the codes, the record windows and the event
window (11, R181 to R184). -/

namespace Sys2Proof.Machine

/-- The high byte of a two-byte value (11, R184). -/
def highByte (n : Nat) : Byte := BitVec.ofNat 8 (n / 256)

/-- The low byte of a two-byte value (11, R184). -/
def lowByte (n : Nat) : Byte := BitVec.ofNat 8 n

/-- A two-byte value, high byte first. -/
def wordBytes (w : Word) : List Byte := [highByte w.toNat, lowByte w.toNat]

/-- A two-byte field, or its absent marker FFFFH (11, R182). -/
def wordField (n : Option Nat) : List Byte :=
  match n with
  | some n => [highByte n, lowByte n]
  | none => [0xFF#8, 0xFF#8]

/-- A one-byte field, or its absent marker FFH (11, R182). -/
def byteField (n : Option Nat) : Byte :=
  match n with
  | some n => lowByte n
  | none => 0xFF#8

/-- A signed two-byte field, or its absent marker 8000H (11, R182). -/
def signedField (d : Option Int) : List Byte :=
  match d with
  | some d => wordBytes (BitVec.ofInt 16 d)
  | none => [0x80#8, 0x00#8]

/-! ### Codes -/

/-- The station state code (11, R181). -/
def stationCode : StationState → Nat
  | .setup => 0
  | .seeding => 1
  | .listen => 2
  | .online => 3
  | .muted => 4
  | .halted => 5
  | .offline => 6

/-- The cadence code (11, R181). -/
def cadenceCode : Cadence → Nat
  | .brisk => 0
  | .slack => 1

/-- The result code (11, R181). -/
def resultCode : Result → Byte
  | .done => 0x00#8
  | .alreadyPending => 0x01#8
  | .refusedState => 0x02#8
  | .badArgument => 0x03#8
  | .setupInvalid => 0x04#8

/-- The channel state code (11, R183). -/
def chanCode : ChanState → Nat
  | .off => 0
  | .seeding => 1
  | .idle => 2
  | .arming => 3
  | .candidate => 4
  | .contending => 5
  | .pressed => 6
  | .suppressed => 7
  | .faulted => 8

/-- The KEY-UP reason code (11, 11.6). -/
def upCode : UpReason → Nat
  | .lift => 0
  | .stuck => 1
  | .reseed => 2
  | .fault => 3
  | .peerLost => 4
  | .left => 5
  | .recal => 6
  | .resync => 7
  | .cleared => 8

/-- The status byte (10, R175; 11, R181). -/
def statusByte (s : State) : Byte :=
  lowByte (32 * stationCode s.ctrl.state + 16 * cadenceCode s.cad.cadence + 8 * s.tracker.hushed.toNat
    + 4 * s.ctrl.leavePending.toNat)

/-! ### Record windows (11, R183)

DESIGN CHOICE (log 22): a bit that a layout does not use inside a byte it does use reads 0; R183 says 00H of
whole unused bytes alone. -/

/-- Sixteen window bytes from a list; bytes a layout does not use read 00H. -/
def windowOf (bytes : List Byte) : Vector Byte 16 := Vector.ofFn fun i => bytes[i.val]?.getD 0x00#8

/-- The empty marker (11, R182). -/
def emptyMarker : Vector Byte 16 := Vector.replicate 16 0xFF#8

/-- The group bits of a channel record, from the setup block. -/
def shownGroup (s : State) (c : Channel) : Nat := groupField (setupAt s.ctrl.block c.val) % 8

/-- The channel record layout; the reference host's record is shown as the reference record (11,
R183; 10, R167). Bits 6 to 4 of 10H, bit 3 of 11H and bits 7 and 3 of 1AH read 0 (log 22). -/
def channelWindow (s : State) (c : Channel) : Vector Byte 16 :=
  let r := s.chans[c]
  let isRef := decide (s.tracker.settings.refHost = some c)
  let seedCount := match r.seed with
    | some p => p.2
    | none => 31
  windowOf <|
    [lowByte ((if isRef then 128 else 0) + chanCode r.state), lowByte (16 * c.val + shownGroup s c)]
      ++ wordField r.baseline ++ wordField r.count
      ++ (if isRef then wordField r.deviation else signedField r.delta)
      ++ signedField (some r.drift)
      ++ [if isRef then 0xFF#8 else lowByte (16 * r.touchDebounce + r.liftDebounce),
          lowByte (32 * (if isRef then 7 else r.antiTouch) + seedCount),
          lowByte r.rail, byteField r.inRange]
      ++ wordField (if isRef then none else r.holdTimer.map (· / 100000))

/-- The group state code (11, R183). -/
def entryCode : Entry → Nat
  | .free => 0
  | .contested _ _ _ _ => 1
  | .owned _ _ _ => 2
  | .guarded _ => 3

/-- The holder of an entry, absent in FREE and GUARD (03, R43). -/
def entryHolder : Entry → Option Holder
  | .contested h _ _ _ => some h
  | .owned h _ _ => some h
  | _ => none

/-- The strength of an entry (03, R43). -/
def entryStrength : Entry → Option Nat
  | .contested _ st _ _ => some st
  | .owned _ st _ => some st
  | _ => none

/-- Owned-since (03, R43). -/
def entrySince : Entry → Option Word
  | .owned _ _ since => some since
  | _ => none

/-- The abandon timer (03, R43). -/
def entryAbandon : Entry → Option Nat
  | .contested _ _ abandon _ => some abandon
  | _ => none

/-- The guard timer (03, R43). -/
def entryGuard : Entry → Option Nat
  | .guarded remaining => some remaining
  | _ => none

/-- The contest timer (03, R50). -/
def entryContest : Entry → Option Nat
  | .contested _ _ _ contest => contest
  | _ => none

/-- The group entry layout (11, R183). Bits 6 to 2 of 10H read 0 (log 22). -/
def groupWindow (s : State) (g : Group) : Vector Byte 16 :=
  let e := s.table.entries[g]
  windowOf <|
    [lowByte ((if (entryContest e).isSome then 128 else 0) + entryCode e), lowByte g.val,
      byteField ((entryHolder e).map fun h => h.station.val),
      byteField ((entryHolder e).map fun h => h.channel.val)]
      ++ wordField (entryStrength e)
      ++ wordField ((entrySince e).map fun w => w.toNat)
      ++ [byteField ((entryAbandon e).map (· / msUs)), byteField ((entryGuard e).map (· / msUs))]

/-- The announced flags byte: cadence, hushed, stirred (11, R183). -/
def announcedByte (a : Announced) : Nat :=
  4 * cadenceCode a.cadence + 2 * a.hushed.toNat + a.stirred.toNat

/-- The pairs of the holdings, FFH beyond the count (11, R183). -/
def pairBytes (l : List (Group × Channel)) : List Byte :=
  (List.range 8).map fun i =>
    match l[i]? with
    | some p => lowByte (16 * p.1.val + p.2.val)
    | none => 0xFF#8

/-- The roster entry layout (11, R183). Bits 6 to 1 of 10H, bits 7 to 3 of 12H and bit 7 of a pair read 0
(log 22). -/
def rosterWindow (s : State) (p : Station) : Vector Byte 16 :=
  let e := s.roster[p]
  windowOf <|
    [lowByte ((if p = s.number then 128 else 0) + e.present.toNat), lowByte p.val,
      byteField (e.announced.map announcedByte),
      byteField (e.announced.map fun a => a.holdings.length)]
      ++ wordField (e.lastHeard.map (· / msUs))
      ++ pairBytes ((e.announced.map Announced.holdings).getD [])

/-- The record the cursor selects, as its window shows it; a cursor that selects none gives the empty
marker (10, R167, R174). -/
def cursorWindow (s : State) : Vector Byte 16 :=
  let kind := s.host.cursorKind.toNat
  let index := s.host.cursorIndex.toNat
  if h : kind = 0 ∧ index < 16 then channelWindow s ⟨index, h.2⟩
  else if h : kind = 1 ∧ index < 8 then groupWindow s ⟨index, h.2⟩
  else if h : kind = 2 ∧ index < 16 then rosterWindow s ⟨index, h.2⟩
  else emptyMarker

/-! ### Event window (11, 11.6) -/

/-- The kind code of an event. -/
def kindCode : Event → Nat
  | .keyDown _ _ _ _ => 0
  | .keyUp _ _ _ => 1
  | .peerJoined _ => 2
  | .peerLost _ => 3
  | .peerLeft _ => 4
  | .hushOn _ _ => 5
  | .hushOff _ _ => 6
  | .channelFault _ _ => 7
  | .channelRecovered _ _ => 8
  | .cadence _ _ => 9
  | .station _ _ => 10
  | .lost _ _ => 11

/-- The station field of an event (09, R152). -/
def eventStation : Event → Station
  | .keyDown h _ _ _ => h.station
  | .keyUp h _ _ => h.station
  | .peerJoined p => p
  | .peerLost p => p
  | .peerLeft p => p
  | .hushOn own _ => own
  | .hushOff own _ => own
  | .channelFault own _ => own
  | .channelRecovered own _ => own
  | .cadence own _ => own
  | .station own _ => own
  | .lost own _ => own

/-- The channel field of an event (09, R152). -/
def eventChannel : Event → Option Nat
  | .keyDown h _ _ _ => some h.channel.val
  | .keyUp h _ _ => some h.channel.val
  | .channelFault _ c => some c.val
  | .channelRecovered _ c => some c.val
  | _ => none

/-- The group field of an event (09, R152). -/
def eventGroup : Event → Option Nat
  | .keyDown _ g _ _ => some g.val
  | .keyUp _ g _ => some g.val
  | _ => none

/-- The value field of an event (09, R152; 11, 11.6). -/
def eventValue : Event → Option Nat
  | .keyDown _ _ st origin => some ((match origin with | .confirmed => 0 | .adopted => 0x8000) + st)
  | .keyUp _ _ reason => some (upCode reason)
  | .hushOn _ d => some d
  | .hushOff _ d => d
  | .cadence _ c => some (cadenceCode c)
  | .station _ st => some (stationCode st)
  | .lost _ n => some n.toNat
  | _ => none

/-- The eight bytes of an event record (11, 11.6). -/
def recordBytes (r : Record) : List Byte :=
  [r.number] ++ wordBytes r.stamp
    ++ [lowByte (16 * kindCode r.event + (eventStation r.event).val),
        byteField (eventChannel r.event), byteField (eventGroup r.event)]
    ++ wordField (eventValue r.event)

/-- The byte at a place of the event window, from the snapshot (10, R168; 11, R182). -/
def eventByte (snap : EventSnapshot) (n : Nat) : Byte :=
  match snap with
  | .empty => 0xFF#8
  | .record r => (recordBytes r)[n]?.getD 0xFF#8

end Sys2Proof.Machine
end

