-- ==== Sys2Proof/Machine/Tracker.lean ====
section
/-! DEFINITION. The channel tracker at a conversion completion: rail check, seeding, drift,
anti-touch, touch and lift qualification, the reference record and hush, and what a RECAL heard does
to the records (01, R11 to R17; 02). -/

namespace Sys2Proof.Machine

/-- A rail count (00_scope, Terms). -/
def isRail (n : Nat) : Bool := decide (n = 0) || decide (n = Config.maxCount)

/-- The rail counter after a count (01, R11). -/
def railAfter (rail n : Nat) : Nat := if isRail n then rail + 1 else 0

/-- The delta, baseline minus count (02, R20). -/
def deltaOf (baseline n : Nat) : Int := (baseline : Int) - (n : Int)

/-- What a processed count hands on: nothing, local activity, a new candidate, or a qualified lift
(02, R26, R31, R32). -/
inductive Signal where
  | none
  | armed
  | touched
  | lifted
  deriving DecidableEq, Repr

/-- One drift step: the baseline and the accumulator after a count (02, R27). -/
def driftStep (period baseline n : Nat) (acc : Int) : Nat × Int :=
  if baseline < n then
    if (period : Int) ≤ acc + 1 then (baseline + 1, 0) else (baseline, acc + 1)
  else if n < baseline then
    if acc - 1 ≤ -(period : Int) then (baseline - 1, 0) else (baseline, acc - 1)
  else (baseline, acc)

/-- A seeding count (02, R23). While the station is hushed a key channel's seeding pauses. -/
def seedCount (paused : Bool) (n : Nat) (r : Chan) : Chan :=
  if paused then r
  else
    let sum := (r.seed.getD (0, 0)).1 + n
    let k := (r.seed.getD (0, 0)).2 + 1
    if Config.seedRun ≤ k then
      { r with
        state := .idle, baseline := some (sum / 16), delta := some (deltaOf (sum / 16) n), seed := none
        touchDebounce := 0, liftDebounce := 0, antiTouch := 0, drift := 0 }
    else { r with seed := some (sum, k) }

/-- A record in IDLE whose count does not arm it: drift, then anti-touch, both judged against the
baseline as it stood (02, R27, R28). -/
def trackIdle (period baseline n : Nat) (r : Chan) : Chan :=
  let step := driftStep period baseline n r.drift
  let anti := if baseline + r.setup.touchThreshold ≤ n then r.antiTouch + 1 else 0
  if Config.antiTouchRun ≤ anti then
    { r with baseline := some n, drift := 0, antiTouch := 0, delta := some 0 }
  else
    { r with
      baseline := some step.1, drift := step.2, antiTouch := anti, delta := some (deltaOf step.1 n) }

/-- A record enters CANDIDATE (02, R31). -/
def toCandidate (r : Chan) : Chan :=
  { r with state := .candidate, touchDebounce := 0, liftDebounce := 0 }

/-- A count in IDLE (02, R26, R29). -/
def idleCount (st : Settings) (hushed : Bool) (n baseline : Nat) (r : Chan) : Chan × Signal :=
  let delta := deltaOf baseline n
  let seen := { r with delta := some delta }
  if hushed then (seen, .none)
  else if (r.setup.touchThreshold : Int) ≤ delta then
    let armed := { seen with state := .arming, touchDebounce := 1, antiTouch := 0 }
    if st.touchDebounce ≤ 1 then (toCandidate armed, .touched) else (armed, .armed)
  else (trackIdle st.driftPeriod baseline n r, .none)

/-- A count in ARMING (02, R30). -/
def armingCount (st : Settings) (n baseline : Nat) (r : Chan) : Chan × Signal :=
  let delta := deltaOf baseline n
  let seen := { r with delta := some delta }
  if (r.setup.touchThreshold : Int) ≤ delta then
    if st.touchDebounce ≤ r.touchDebounce + 1 then (toCandidate seen, .touched)
    else ({ seen with touchDebounce := r.touchDebounce + 1 }, .none)
  else (toIdle seen, .none)

/-- A count on the claim side (02, R32). -/
def claimSideCount (st : Settings) (n baseline : Nat) (r : Chan) : Chan × Signal :=
  let delta := deltaOf baseline n
  let seen := { r with delta := some delta }
  if delta < (r.setup.releaseThreshold : Int) then
    if st.liftDebounce ≤ r.liftDebounce + 1 then ({ seen with liftDebounce := 0 }, .lifted)
    else ({ seen with liftDebounce := r.liftDebounce + 1 }, .none)
  else ({ seen with liftDebounce := 0 }, .none)

/-- The processing of a key channel's count by the record's state, once the rail check has passed
(02, R19). A record whose baseline is absent outside SEEDING has no delta to judge (02, R20). -/
def processCount (st : Settings) (hushed : Bool) (n : Nat) (r : Chan) : Chan × Signal :=
  match r.state, r.baseline with
  | .seeding, _ => (seedCount hushed n r, .none)
  | .idle, some b => idleCount st hushed n b r
  | .arming, some b => armingCount st n b r
  | .candidate, some b => claimSideCount st n b r
  | .contending, some b => claimSideCount st n b r
  | .pressed, some b => claimSideCount st n b r
  | .suppressed, some b => claimSideCount st n b r
  | _, _ => (r, .none)

/-- A record that faults (01, R12, R17). -/
def toFaulted (r : Chan) : Chan :=
  { r with
    state := .faulted, rail := 0, inRange := some 0, touchDebounce := 0, liftDebounce := 0
    antiTouch := 0, seed := none, holdTimer := none, deviation := none }

/-- The in-range run of a FAULTED record after a count (01, R14). -/
def inRangeAfter (n : Nat) (r : Chan) : Nat := if isRail n then 0 else r.inRange.getD 0 + 1

/-- A count in FAULTED (01, R14, R15): the sixteenth in-range count recovers the record, with
CHANNEL-RECOVERED. -/
def faultedCount (c : Channel) (n : Nat) (s : State) : State :=
  let r := { s.chans[c] with count := some n }
  if Config.railRun ≤ inRangeAfter n r then
    (s.setChan c (faultedToSeeding r)).put (.channelRecovered s.number c)
  else s.setChan c { r with inRange := some (inRangeAfter n r) }

/-- A key channel faults: CHANNEL-FAULT, then the frame requests of the state it left (01, R12,
R13). -/
def keyFault (c : Channel) (n : Nat) (s : State) : State :=
  let asked := leaveClaimSide .fault c (s.put (.channelFault s.number c))
  asked.setChan c (toFaulted { s.chans[c] with count := some n })

/-- What a processed count hands on is carried out: local activity, or a lift with its frames (02,
R26, R31, R32; 04). -/
def carryOut (c : Channel) (out : Chan × Signal) (s : State) : State :=
  match out.2 with
  | .none => s.setChan c out.1
  | .armed => activity true (s.setChan c out.1)
  | .touched => activity true (s.setChan c out.1)
  | .lifted => (leaveClaimSide .withdrawn c s).setChan c (toIdle out.1)

/-- The record takes its count and the rail check passes or faults it, then its state processes the
count (02, R19; 01, R11). -/
def keyCount (c : Channel) (n : Nat) (s : State) : State :=
  let r := s.chans[c]
  match r.state with
  | .off => s.setChan c { r with count := some n }
  | .faulted => faultedCount c n s
  | _ =>
    if Config.railRun ≤ railAfter r.rail n then keyFault c n s
    else carryOut c (processCount s.tracker.settings s.tracker.hushed n
      { r with count := some n, rail := railAfter r.rail n }) s

/-- The group of channel `c` is evaluated at its conversion completion (04, R71, R75, R77): the
channel was in CANDIDATE with its CLAIM not in flight, it enters CANDIDATE, or it leaves CANDIDATE or
CONTENDING. -/
def callsEvaluation (c : Channel) (before after : State) : Bool :=
  let was := before.chans[c].state
  let is := after.chans[c].state
  (decide (was = .candidate) && !claimInFlight before.queue before.chans[c].setup.group c)
    || (decide (is = .candidate) && decide (was ≠ .candidate))
    || (decide (was = .candidate ∨ was = .contending) && decide (is = .idle ∨ is = .faulted))

/-- A key channel's conversion completion at the channel tracker and the key state unit (02, R19). -/
def keyConversion (c : Channel) (n : Nat) (s : State) : State :=
  let s1 := keyCount c n s
  evaluate (fun g => callsEvaluation c s s1 && decide (g = s.chans[c].setup.group)) s1

/-! ### The reference record and hush (02, 2.8) -/

/-- The deviation: the magnitude of the reference count minus the reference baseline (02, R35). -/
def deviationOf (baseline n : Nat) : Nat := (n - baseline) + (baseline - n)

/-- Hush ends: the flag cleared and the settle counter absent (02, R37, R38). -/
def unhush (s : State) : State := { s with tracker := { s.tracker with hushed := false, settle := none } }

/-- A record when the station becomes hushed (02, R36). -/
def hushedChan (r : Chan) : Chan :=
  match r.state with
  | .arming => toIdle r
  | .candidate => toIdle r
  | _ => r

/-- The frames of the candidates that HUSH-ON returns to IDLE (02, R36). -/
def hushRequests (s : State) : State :=
  (List.finRange 16).foldl
    (fun t c => if s.chans[c].state = .candidate then leaveClaimSide .withdrawn c t else t) s

/-- The station becomes hushed (02, R35, R36). -/
def hushOn (deviation : Nat) (s : State) : State :=
  let s1 := { s with tracker := { s.tracker with hushed := true, settle := some 0 } }
  let s2 := hushRequests (s1.put (.hushOn s.number deviation))
  { s2 with chans := each (fun _ r => hushedChan r) s2.chans }

/-- The reference record faults; a hush in force ends after CHANNEL-FAULT (01, R17; 02, R38). -/
def refFault (c : Channel) (n : Nat) (s : State) : State :=
  let s1 := (s.setChan c (toFaulted { s.chans[c] with count := some n })).put (.channelFault s.number c)
  if s.tracker.hushed then (unhush s1).put (.hushOff s.number none) else s1

/-- A reference count in SEEDING: the reference seeds hushed or not, and its completion gives the
deviation (02, R34). -/
def refSeedCount (n : Nat) (r : Chan) : Chan :=
  let r1 := seedCount false n r
  if r1.state = .idle then
    { r1 with delta := none, deviation := some (deviationOf (r1.baseline.getD 0) n) }
  else r1

/-- A reference count in IDLE without hush (02, R35). -/
def refIdleCount (c : Channel) (n baseline : Nat) (r : Chan) (s : State) : State :=
  if s.tracker.settings.hushLimit < deviationOf baseline n then
    hushOn (deviationOf baseline n) (s.setChan c { r with deviation := some (deviationOf baseline n) })
  else
    let step := driftStep s.tracker.settings.driftPeriod baseline n r.drift
    s.setChan c
      { r with baseline := some step.1, drift := step.2, deviation := some (deviationOf step.1 n) }

/-- The settle counter after a hushed reference count (02, R37). -/
def settleAfter (s : State) (baseline n : Nat) : Nat :=
  if deviationOf baseline n ≤ s.tracker.settings.hushLimit / 2 then s.tracker.settle.getD 0 + 1 else 0

/-- A reference count in IDLE while hushed (02, R37). -/
def refHushedCount (c : Channel) (n baseline : Nat) (r : Chan) (s : State) : State :=
  let s1 := s.setChan c { r with deviation := some (deviationOf baseline n) }
  if Config.settleRun ≤ settleAfter s baseline n then
    (unhush s1).put (.hushOff s.number (some (deviationOf baseline n)))
  else { s1 with tracker := { s1.tracker with settle := some (settleAfter s baseline n) } }

/-- A conversion completion of the reference slot (01, R11, R17; 02, R34 to R37). -/
def refConversion (c : Channel) (n : Nat) (s : State) : State :=
  let r := s.chans[c]
  match r.state with
  | .off => s.setChan c { r with count := some n }
  | .faulted => faultedCount c n s
  | st =>
    if Config.railRun ≤ railAfter r.rail n then refFault c n s
    else
      let r1 := { r with count := some n, rail := railAfter r.rail n }
      match st, r.baseline with
      | .seeding, _ => s.setChan c (refSeedCount n r1)
      | .idle, some b => if s.tracker.hushed then refHushedCount c n b r1 s else refIdleCount c n b r1 s
      | _, _ => s.setChan c r1

/-- The slot's count at the channel tracker. -/
def slotConversion (slot : Slot) (n : Nat) (s : State) : State :=
  match slot with
  | .channel c => keyConversion c n s
  | .reference => match s.tracker.settings.refHost with
    | some c => refConversion c n s
    | none => s

/-! ### RECAL heard (02, R39) -/

/-- A record at a RECAL heard: a key channel that is not OFF or FAULTED re-seeds, and so does the
reference record in IDLE or SEEDING (02, R39). -/
def recalChan (isKey isRef : Bool) (r : Chan) : Chan :=
  match r.state with
  | .off => r
  | .faulted => r
  | .idle => if isKey || isRef then toSeeding r else r
  | .seeding => if isKey || isRef then toSeeding r else r
  | _ => if isKey then toSeeding r else r

/-- The tracker re-seeds at a RECAL heard, and a hush in force ends with HUSH-OFF (02, R38, R39). -/
def recalTracker (s : State) : State :=
  let s1 := { s with
    chans := each (fun c r => recalChan (s.isKey c) (decide (s.tracker.settings.refHost = some c)) r)
      s.chans }
  if s.tracker.hushed then (unhush s1).put (.hushOff s.number none) else s1

/-- A RECAL heard: the table emptied with KEY-UP (RECAL) for each OWNED entry, the group slots,
follow-ups and RECAL slot dropped, and the tracker re-seeded (03, R56; 06, R112; 02, R39). -/
def recalHeard (s : State) : State :=
  let s1 := emptyTable (fun _ => true) .recal s
  recalTracker { s1 with queue := dropForRecal s1.queue }

end Sys2Proof.Machine
end

