-- ==== Sys2Proof/Machine/Port.lean ====
section
/-! DEFINITION. The host port's operations: the commands as their owners take them, transaction ends,
and byte reads and writes (10). -/

namespace Sys2Proof.Machine

/-- The result register set (10, R172). -/
def setResult (r : Result) (s : State) : State := { s with host := { s.host with result := r } }

/-- SETUP-INVALID with the offset of the first bad byte in the argument (10, R172). -/
def setupInvalid (offset : Nat) (s : State) : State :=
  { s with host := { s.host with result := .setupInvalid, argument := BitVec.ofNat 8 offset } }

/-! ### The commands (10, R170, R171) -/

/-- The setup hold timer stopped. -/
def stopSetupHold (s : State) : State := { s with ctrl := { s.ctrl with setupHold := none } }

/-- The setup block validated in SETUP, by a JOIN or at the setup hold expiry: SEEDING, or SETUP with
SETUP-INVALID (08, R140, R141). -/
def tryJoin (s : State) : State :=
  match firstBadOffset s.ctrl.block with
  | some offset => setupInvalid offset (stopSetupHold s)
  | none => enterSeeding (stopSetupHold s)

/-- JOIN (08, R140). -/
def takeJoin (s : State) : State :=
  match s.ctrl.state with
  | .setup =>
    match firstBadOffset s.ctrl.block with
    | some _ => tryJoin s
    | none => setResult .done (tryJoin s)
  | .offline => setResult .done (enterSeeding s)
  | _ => setResult .refusedState s

/-- RESTART (08, R151). -/
def takeRestart (s : State) : State :=
  if s.ctrl.state = .setup then setResult .refusedState s
  else setResult .done (restartStation s)

/-- The record of a RESEED: into SEEDING with its baseline kept; a FAULTED one also loses its in-range
counter and rail run (02, R24; 01, R16). -/
def reseededChan (r : Chan) : Chan := if r.state = .faulted then faultedToSeeding r else toSeeding r

/-- A RESEED of a key channel that is not OFF: the frame its state calls for, then SEEDING; a
CONTENDING channel's group is evaluated again (02, R24; 04, R77, R81). -/
def reseedChannel (c : Channel) (s : State) : State :=
  let asked := (leaveClaimSide .reseed c s).setChan c (reseededChan s.chans[c])
  evaluate (fun g => decide (s.chans[c].state = .contending) && decide (g = s.chans[c].setup.group)) asked

/-- RESEED of the channel the argument names (02, R24; 10, R170). -/
def takeReseed (s : State) : State :=
  if h : s.host.argument.toNat < 16 then
    if s.isKey ⟨s.host.argument.toNat, h⟩ = true
        ∧ s.chans[s.host.argument.toNat].state ≠ .off then
      setResult .done (reseedChannel ⟨s.host.argument.toNat, h⟩ s)
    else setResult .badArgument s
  else setResult .badArgument s

/-- PANEL-RECAL (06, R112). -/
def takePanelRecal (s : State) : State :=
  if s.online then
    if s.queue.recal then setResult .alreadyPending s
    else setResult .done { s with queue := { s.queue with recal := true } }
  else setResult .refusedState s

/-- LEAVE (08, R147). -/
def takeLeave (s : State) : State :=
  match s.ctrl.state with
  | .online =>
    if s.ctrl.leavePending then setResult .alreadyPending s
    else setResult .done
      (({ s with ctrl := { s.ctrl with leavePending := true } }).requestPulse false)
  | .seeding => setResult .done (enterStopped .offline s)
  | .listen => setResult .done (enterStopped .offline s)
  | .muted => setResult .done (enterStopped .offline s)
  | _ => setResult .refusedState s

/-- CLEAR-COUNTERS (10, R175). -/
def takeClearCounters (s : State) : State :=
  setResult .done
    { s with
      table := { s.table with stray := 0#16, abandoned := 0#16 }
      link := { s.link with rxErrors := 0#16, txFailures := 0#16 } }

/-- The command byte is one of the six codes (11, R181). -/
def isCommand (code : Byte) : Bool := decide (1 ≤ code.toNat) && decide (code.toNat ≤ 6)

/-- A command taken, by its code (10, R170; 11, R181). -/
def takeCommand (code : Byte) (s : State) : State :=
  if code = 0x01#8 then takeJoin s
  else if code = 0x02#8 then takeRestart s
  else if code = 0x03#8 then takeReseed s
  else if code = 0x04#8 then takePanelRecal s
  else if code = 0x05#8 then takeLeave s
  else if code = 0x06#8 then takeClearCounters s
  else setResult .badArgument s

/-! ### Transactions (10, R163 to R166) -/

/-- The take a transaction end hands to the event log: a READ that read 27H, ended with a stop, and
whose event snapshot is a record (09, R157; 10, R168). -/
def handsTake (how : BusEnd) (s : State) : Bool :=
  match s.host.transaction, s.host.eventSnapshot with
  | some t, some (.record _) =>
    decide (t.direction = .read) && t.readLast && decide (how = .stop)
  | _, _ => false

/-- The command a transaction end hands on: that of a WRITE transaction (10, R170). -/
def handsCommand (s : State) : Option Byte :=
  match s.host.transaction with
  | some t => if t.direction = .write then s.host.commandPending else none
  | none => none

/-- What every transaction end drops (10, R166). -/
def dropTransaction (s : State) : State :=
  { s with host := { s.host with
      commandPending := none, transaction := none, recordSnapshot := none, eventSnapshot := none
      latches := noLatches, sda := .released, byteSent := none } }

/-- A transaction end: the take or the command it hands on, then the snapshots, the latches and the
transaction dropped (10, R166). With no transaction in progress the bus event is not this port's. -/
def endTransaction (how : BusEnd) (s : State) : State :=
  match s.host.transaction with
  | none => s
  | some _ =>
    let s1 := if handsTake how s then { s with log := logTake s.number s.log } else s
    let s2 := match handsCommand s with
      | some code => takeCommand code s1
      | none => s1
    dropTransaction s2

/-- The port's 7-bit address (10, R163). -/
def portAddress (s : State) : Nat := 0x4C + s.ctrl.straps.address.val

/-- The direction bit of an address byte (10, R163). -/
def directionOf (b : Byte) : Direction := if b.toNat % 2 = 1 then .read else .write

/-- A start or repeated start with its address byte: a transaction in progress ends by repeated start,
and a matching address begins the next (10, R163). -/
def startTransaction (b : Byte) (s : State) : State :=
  let s1 := endTransaction .repeatedStart s
  if b.toNat / 2 = portAddress s1 then
    { s1 with host := { s1.host with
        transaction := some {
          direction := directionOf b, indexDue := decide (directionOf b = .write)
          nacked := false, readLast := false }
        sda := .acknowledged } }
  else { s1 with host := { s1.host with sda := .released } }

/-- The register index advanced by one, from 7FH to 00H, after a byte written and acknowledged (10,
R164). -/
def wroteByte (s : State) : State :=
  { s with host := { s.host with index := s.host.index + 1#7, sda := .acknowledged } }

/-- A WRITE transaction whose index byte has been taken. -/
def writing (s : State) : Bool :=
  match s.host.transaction with
  | some t => decide (t.direction = .write) && !t.indexDue
  | none => false

/-- A WRITE transaction whose next byte is the index byte. -/
def indexDue (s : State) : Bool :=
  match s.host.transaction with
  | some t => decide (t.direction = .write) && t.indexDue
  | none => false

/-- The index byte: its low seven bits become the register index (10, R164). -/
def takeIndex (b : Byte) (s : State) : State :=
  { s with host := { s.host with
      index := b.setWidth 7
      transaction := s.host.transaction.map fun t => { t with indexDue := false }
      sda := .acknowledged } }

/-- A byte written to the setup window (10, R173). -/
def writeSetup (b : Byte) (s : State) : State :=
  if s.ctrl.state = .setup ∧ s.ctrl.lockOpen = true then
    { s with ctrl := { s.ctrl with
        block := s.ctrl.block.set (Fin.ofNat 64 s.host.index.toNat) b } }
  else setResult .refusedState s

/-- A byte written to a cursor register (10, R174). -/
def writeCursor (b : Byte) (s : State) : State :=
  if s.host.index = 0x03#7 then { s with host := { s.host with cursorKind := b } }
  else { s with host := { s.host with cursorIndex := b } }

/-- A byte written outside the setup window and the cursor: the command pending at 01H, the argument
at 02H, else discarded (10, R164). -/
def writeRegister (b : Byte) (s : State) : State :=
  if s.host.index = 0x01#7 then { s with host := { s.host with commandPending := some b } }
  else if s.host.index = 0x02#7 then { s with host := { s.host with argument := b } }
  else s

/-- A READ transaction in which the port still sends (10, R165). -/
def sending (s : State) : Bool :=
  match s.host.transaction with
  | some t => decide (t.direction = .read) && !t.nacked
  | none => false

/-- A byte sent: the index advances, and the byte at 27H counts as read; after a byte left
unacknowledged the port sends no more and releases SDA (10, R165, R168). -/
def sentByte (b : Byte) (acknowledged : Bool) (s : State) : State :=
  { s with host := { s.host with
      index := s.host.index + 1#7
      transaction := s.host.transaction.map fun t =>
        { t with nacked := !acknowledged, readLast := t.readLast || decide (s.host.index = 0x27#7) }
      sda := if acknowledged then .sending else .released
      byteSent := some b } }

/-- The index lies in the record window (10). -/
def inRecordWindow (i : BitVec 7) : Bool := decide (0x10 ≤ i.toNat) && decide (i.toNat ≤ 0x1F)

/-- The index lies in the event window (10). -/
def inEventWindow (i : BitVec 7) : Bool := decide (0x20 ≤ i.toNat) && decide (i.toNat ≤ 0x27)

/-- The index lies in the setup window (10). -/
def inSetupWindow (i : BitVec 7) : Bool := decide (0x40 ≤ i.toNat)

/-- The index is a cursor register's (10). -/
def isCursorIndex (i : BitVec 7) : Bool := decide (i = 0x03#7) || decide (i = 0x04#7)

/-- The record snapshot of the transaction, taken at its first record window byte (10, R167). -/
def recordSnap (s : State) : Vector Byte 16 := s.host.recordSnapshot.getD (cursorWindow s)

/-- A record window byte read (10, R167). -/
def readRecord (acknowledged : Bool) (s : State) : State :=
  sentByte ((recordSnap s)[s.host.index.toNat - 0x10]?.getD 0xFF#8) acknowledged
    { s with host := { s.host with recordSnapshot := some (recordSnap s) } }

/-- The head of the log as an event snapshot (09, R160). -/
def headSnapshot (l : EventLog) : EventSnapshot :=
  match l.records.head? with
  | some r => .record r
  | none => .empty

/-- The event snapshot of the transaction, taken at its first event window byte (10, R168). -/
def eventSnap (s : State) : EventSnapshot := s.host.eventSnapshot.getD (headSnapshot s.log)

/-- An event window byte read (10, R168). -/
def readEvent (acknowledged : Bool) (s : State) : State :=
  sentByte (eventByte (eventSnap s) (s.host.index.toNat - 0x20)) acknowledged
    { s with host := { s.host with eventSnapshot := some (eventSnap s) } }

/-- A latched two-byte value's byte: the high one at the lower index, which is even (10, R169; 11,
R184). -/
def latchByte (s : State) (w : Word) : Byte :=
  if s.host.index.toNat % 2 = 0 then highByte w.toNat else lowByte w.toNat

/-- A value byte read: a byte of a two-byte value from its latch, which its first byte read takes; any
other byte live; an unassigned index 00H (10, R165, R169, R175; 11, R181). -/
def readValue (acknowledged : Bool) (s : State) : State :=
  let i := s.host.index.toNat
  let ls := s.host.latches
  let latched (w : Word) (ls' : Latches) : State :=
    sentByte (latchByte s w) acknowledged { s with host := { s.host with latches := ls' } }
  let live (b : Byte) : State := sentByte b acknowledged s
  if i = 0x06 ∨ i = 0x07 then
    latched (ls.clock.getD s.log.clock) { ls with clock := some (ls.clock.getD s.log.clock) }
  else if i = 0x08 ∨ i = 0x09 then
    latched (ls.rxErrors.getD s.link.rxErrors)
      { ls with rxErrors := some (ls.rxErrors.getD s.link.rxErrors) }
  else if i = 0x0A ∨ i = 0x0B then
    latched (ls.txFailures.getD s.link.txFailures)
      { ls with txFailures := some (ls.txFailures.getD s.link.txFailures) }
  else if i = 0x0C ∨ i = 0x0D then
    latched (ls.stray.getD s.table.stray) { ls with stray := some (ls.stray.getD s.table.stray) }
  else if i = 0x0E ∨ i = 0x0F then
    latched (ls.abandoned.getD s.table.abandoned)
      { ls with abandoned := some (ls.abandoned.getD s.table.abandoned) }
  else if i = 0x28 ∨ i = 0x29 then
    latched (ls.cycle.getD s.front.cycle) { ls with cycle := some (ls.cycle.getD s.front.cycle) }
  else if i = 0x00 then live (statusByte s)
  else if i = 0x01 then live (resultCode s.host.result)
  else if i = 0x02 then live s.host.argument
  else if i = 0x03 then live s.host.cursorKind
  else if i = 0x04 then live s.host.cursorIndex
  else if i = 0x05 then live (lowByte s.log.records.length)
  else if 0x40 ≤ i then live (s.ctrl.block[i - 0x40]?.getD 0x00#8)
  else live 0x00#8

end Sys2Proof.Machine
end

