-- ==== Sys2Proof/Machine/HostCommands.lean ====
section
/-! DEFINITION. The meanings of the host port's events and of the commands taken (10). -/

namespace Sys2Proof.Machine

/-- HOST_TRANSACTION_START (10, R163). -/
def execHostTransactionStart (addressByte : Byte) (s : State) : Host.Outcome State Fault Refusal :=
  .next (outOfReset (startTransaction addressByte) s)

/-- HOST_TRANSACTION_END (10, R166). -/
def execHostTransactionEnd (how : BusEnd) (s : State) : Host.Outcome State Fault Refusal :=
  .next (outOfReset (endTransaction how) s)

/-- JOIN taken (08, R140). -/
def execJoin (s : State) : Host.Outcome State Fault Refusal := .next (outOfReset takeJoin s)

/-- RESTART taken (08, R151). -/
def execRestart (s : State) : Host.Outcome State Fault Refusal := .next (outOfReset takeRestart s)

/-- RESEED taken (02, R24). -/
def execReseed (s : State) : Host.Outcome State Fault Refusal := .next (outOfReset takeReseed s)

/-- PANEL-RECAL taken (06, R112). -/
def execPanelRecal (s : State) : Host.Outcome State Fault Refusal := .next (outOfReset takePanelRecal s)

/-- LEAVE taken (08, R147). -/
def execLeave (s : State) : Host.Outcome State Fault Refusal := .next (outOfReset takeLeave s)

/-- CLEAR-COUNTERS taken (10, R175). -/
def execClearCounters (s : State) : Host.Outcome State Fault Refusal :=
  .next (outOfReset takeClearCounters s)

/-- An unknown command taken: BAD-ARGUMENT and nothing else (10, R170). A byte that names one of the
six commands is none. -/
def execUnknownCommand (code : Byte) (s : State) : Host.Outcome State Fault Refusal :=
  .next (outOfReset (fun t => if isCommand code then t else setResult .badArgument t) s)

/-- SETUP_WINDOW_WRITE (10, R173). -/
def execSetupWindowWrite (value : Byte) (s : State) : Host.Outcome State Fault Refusal :=
  .next (outOfReset
    (fun t => if writing t = true ∧ inSetupWindow t.host.index = true then wroteByte (writeSetup value t)
      else t) s)

/-- CURSOR_WRITE (10, R174). -/
def execCursorWrite (value : Byte) (s : State) : Host.Outcome State Fault Refusal :=
  .next (outOfReset
    (fun t => if writing t = true ∧ isCursorIndex t.host.index = true then wroteByte (writeCursor value t)
      else t) s)

/-- REGISTER_WRITE (10, R164): the index byte, or a byte at an index that is neither the setup
window's nor a cursor's. -/
def execRegisterWrite (value : Byte) (s : State) : Host.Outcome State Fault Refusal :=
  .next (outOfReset
    (fun t =>
      if indexDue t = true then takeIndex value t
      else if writing t = true ∧ inSetupWindow t.host.index = false ∧ isCursorIndex t.host.index = false
      then wroteByte (writeRegister value t)
      else t) s)

/-- RECORD_WINDOW_READ (10, R167). -/
def execRecordWindowRead (acknowledged : Bool) (s : State) : Host.Outcome State Fault Refusal :=
  .next (outOfReset
    (fun t => if sending t = true ∧ inRecordWindow t.host.index = true then readRecord acknowledged t
      else t) s)

/-- EVENT_WINDOW_READ (10, R168). -/
def execEventWindowRead (acknowledged : Bool) (s : State) : Host.Outcome State Fault Refusal :=
  .next (outOfReset
    (fun t => if sending t = true ∧ inEventWindow t.host.index = true then readEvent acknowledged t
      else t) s)

/-- VALUE_LATCH_READ (10, R169): a byte outside the record and event windows. -/
def execValueLatchRead (acknowledged : Bool) (s : State) : Host.Outcome State Fault Refusal :=
  .next (outOfReset
    (fun t =>
      if sending t = true ∧ inRecordWindow t.host.index = false ∧ inEventWindow t.host.index = false
      then readValue acknowledged t
      else t) s)

end Sys2Proof.Machine
end

