-- ==== Sys2Proof/Machine/Heard.lean ====
section
/-! DEFINITION. A frame heard, and the end of an own attempt in success (05, R91, R97). -/

namespace Sys2Proof.Machine

/-- What the claim table takes from a frame (03). A peer's PULSE is used for resync when its leaving
flag is clear; this station's own PULSE is not (03, R57). -/
def tableHears (f : Frame) (s : State) : State :=
  match f with
  | .recal _ => recalHeard s
  | .release p g c reason => releaseHeard { station := p, channel := c } g reason s
  | .confirm p g c => confirmHeard { station := p, channel := c } g s
  | .claim strength p g c => claimHeard { station := p, channel := c } g strength s
  | .pulse p fields =>
    if p = s.number ∨ fields.leaving = true then s else resync p fields.holdings s

/-- A frame that is an activity event: a CLAIM, a CONFIRM, or a peer's PULSE with stirred set (07,
R128). -/
def isActivity (own : Station) (f : Frame) : Bool :=
  match f with
  | .claim _ _ _ _ => true
  | .confirm _ _ _ => true
  | .pulse p fields => fields.stirred && decide (p ≠ own)
  | _ => false

/-- The frame is a RECAL; its report to cadence control is made even when every entry was FREE (03,
R45). -/
def isRecal : Frame → Bool
  | .recal _ => true
  | _ => false

/-- The stirred flag and the taken mark at an own PULSE's success (07, R132). -/
def stirredAtSuccess (carried : Bool) (c : CadenceControl) : CadenceControl :=
  if carried && c.taken then { c with stirred := false, taken := false } else c

/-- The success of an own PULSE: the interval timer starts with the interval of the cadence in force,
and a stirred flag reported and not renewed is cleared (06, R114, R115; 07, R132). -/
def pulseSuccess (fields : PulseFields) (s : State) : State :=
  { s with
    queue := { s.queue with intervalTimer := some (pulseIntervalUs s.cad.cadence) }
    cad := stirredAtSuccess fields.stirred s.cad }

/-- The queue and the link controller take the success of the attempt in progress (05, R97; 06,
R115). -/
def attemptSucceeds (slot : TxSlot) (f : Frame) (s : State) : State :=
  let s1 := { s with
    queue := queueSuccess slot f s.queue
    link := { s.link with attempt := none, linkLow := false, consecutive := 0 } }
  match f with
  | .pulse _ fields => pulseSuccess fields s1
  | _ => s1

/-- A leaving PULSE of this station's own that has been heard takes the station OFFLINE (08, R148). -/
def leavesNow (f : Frame) : Bool :=
  match f with
  | .pulse _ fields => fields.leaving
  | _ => false

/-- After an intact frame the receiver seeks again, with the seven end-field bits as its run (05,
R89). -/
def afterFrame (s : State) : State := { s with link := { s.link with line := .seeking 7 } }

/-- Cadence control's part of a frame: the claim table's report when an entry changed or a RECAL was
taken, then the activity event, whose CADENCE record comes last (07, R128 to R130, R133; 09,
R155). -/
def cadenceHears (f : Frame) (old : Vector Entry 8) (s : State) : State :=
  let s1 := if isRecal f || anyChanged old s.table.entries then reportTable s else s
  if isActivity s.number f then activity false s1 else s1

/-- A frame delivered as one event to the roster, the claim table with the tracker, the transmit
queue and cadence control, in the order of its records (05, R91; 09, R155); `own` is the slot of this
station's attempt that the frame ends in success. Then the groups whose entry changed, and the group
of an own frame's slot, are evaluated once with the state as it then stands (04, R71; 06, R117). -/
def deliver (f : Frame) (own : Option TxSlot) (s : State) : State :=
  let s1 := tableHears f (rosterHears f (afterFrame s))
  match own with
  | none =>
    let s2 := cadenceHears f s.table.entries s1
    evaluate (entryChanged s.table.entries s2.table.entries) s2
  | some slot =>
    let s2 := cadenceHears f s.table.entries (attemptSucceeds slot f s1)
    if leavesNow f then enterStopped .offline s2
    else
      let s3 := match slotGroup slot with
        | some g => confirmAgain g s2
        | none => s2
      evaluate (fun g => entryChanged s.table.entries s3.table.entries g
        || decide (slotGroup slot = some g)) s3

/-- Every bit of its frame that the attempt has read back was read as sent (05, R97). -/
def readAsSent (a : Attempt) (line : Line) : Bool :=
  match line with
  | .receiving bits => bits.isPrefixOf (frameBits a.frame)
  | _ => true

/-- An intact frame heard (05, R91): an own frame read back as sent is a success (05, R97), and a frame of this station's number that is not its own success
halts it (05, R103; 08, R149). -/
def hear (f : Frame) (s : State) : State :=
  match s.link.attempt with
  | some a => if a.frame = f ∧ readAsSent a s.link.line = true then deliver f (some a.slot) s else s
  | none =>
    match s.link.line with
    | .receiving bits =>
      if bits.isPrefixOf (frameBits f) then
        if senderOf f = s.number then enterStopped .halted s else deliver f none s
      else s
    | _ => s

end Sys2Proof.Machine
end

