-- ==== Sys2Proof/Machine/Idle.lean ====
section
/-! DEFINITION. What passes while no command waits: one bit time of 8 µs (05, R86), never past the end
of the millisecond, whose tick is a command (log 3). In it one bit is read from LINK (05, R87; log 4), and
where the bits read call for an event of the link, time waits for its command. -/

namespace Sys2Proof.Machine

/-- The line after a bit read while no attempt of this station's own is in progress (05, R87). -/
def lineReads (bit : Bool) (l : Line) : Line :=
  match l with
  | .stopped => .stopped
  | .seeking run => if bit then (if 9 ≤ run then .idle else .seeking (run + 1)) else .seeking 0
  | .idle => if bit then .idle else .receiving [false]
  | .receiving bits =>
    match judge bits with
    | .assembling => .receiving (bits ++ [bit])
    | _ => .receiving bits

/-- The attempt in progress drives its next bit; past the arbitration field it is SENDING (05, R93,
R94). -/
def driveNext (a : Attempt) (l : Link) : Link :=
  { l with
    attempt := some { a with
      bit := a.bit + 1
      phase := if arbitrationEnd a.frame < a.bit + 1 then .sending else .arbitrating }
    linkLow := sentDominant a.frame (a.bit + 1) }

/-- The attempt in progress reads its bit back into the frame in assembly: dominant where this station
or another drives LINK low (05, R86). Read as sent and not the last, it is followed by the next one; else
it ends the attempt, and that end's command is due (05, R94, R97, R99). -/
def attemptReads (bit : Bool) (a : Attempt) (l : Link) : Link :=
  let sent := !sentDominant a.frame a.bit
  let level := sent && bit
  let read := { l with line := .receiving ((frameBits a.frame).take (a.bit - 1) ++ [level]) }
  if level = sent ∧ a.bit < (frameBits a.frame).length then driveNext a read else read

/-- The link controller reads one bit; `bit` is the level the other stations give LINK (05, R86,
R87). -/
def linkReads (bit : Bool) (l : Link) : Link :=
  match l.attempt with
  | none => { l with line := lineReads bit l.line }
  | some a => attemptReads bit a l

/-- The bits read call for an event of the link: the bit that an attempt sends has been read and ends the
attempt (05, R94, R97, R99), or a frame's last bit has judged it (05, R89, R90). -/
def linkDue (l : Link) : Bool :=
  match l.line, l.attempt with
  | .receiving bits, some a => decide (a.bit ≤ bits.length)
  | .receiving bits, none => match judge bits with
    | .heard _ => true
    | .discarded _ => true
    | _ => false
  | _, _ => false

/-- One bit time passes (log 3): at the end of the millisecond, in reset, and where an event of the link
is due, time waits. -/
def idle (s : State) : State :=
  if s.inReset = true ∨ msUs ≤ s.sinceTick ∨ linkDue s.link = true then s
  else
    let us := min bitTimeUs (msUs - s.sinceTick)
    { elapse us s with
      sinceTick := s.sinceTick + us
      link := linkReads (s.wire.head?.getD true) s.link
      wire := s.wire.tail }

end Sys2Proof.Machine
end

