-- ==== Sys2Proof/Machine/LinkEvents.lean ====
section
/-! DEFINITION. The meanings of the panel link's events (05, 06). -/

namespace Sys2Proof.Machine

/-- FRAME_HEARD (05, R91). A frame that cannot be intact is not heard. -/
def execFrameHeard (frame : Frame) (s : State) : Host.Outcome State Fault Refusal :=
  .next (outOfReset
    (fun t => if frame.wellFormed ∧ receiving t.ctrl.state = true then hear frame t else t) s)

/-- The receiver discards the frame in assembly at the bit that condemns it: one receive error, and
the run the discard leaves (05, R90). -/
def discard (bits : List Bool) (s : State) : State :=
  match s.link.line, s.link.attempt, judge bits with
  | .receiving read, none, .discarded run =>
    if read.isPrefixOf bits then
      { s with link := { s.link with line := .seeking run, rxErrors := satInc s.link.rxErrors } }
    else s
  | _, _, _ => s

/-- FRAME_DISCARDED (05, R90). -/
def execFrameDiscarded (bits : List Bool) (s : State) : Host.Outcome State Fault Refusal :=
  .next (outOfReset (discard bits) s)

/-- The holdings of a PULSE: the groups OWNED with this station as holder, in ascending order (06,
R107). -/
def ownHoldings (s : State) : List (Group × Channel) :=
  (List.finRange 8).filterMap fun g =>
    match s.table.entries[g] with
    | .owned h _ _ => if h.station = s.number then some (g, h.channel) else none
    | _ => none

/-- The PULSE fields taken at an attempt start (06, R107). -/
def pulseContent (s : State) : PulseFields where
  cadence := s.cad.cadence
  hushed := s.tracker.hushed
  stirred := s.cad.stirred
  leaving := s.ctrl.leavePending
  holdings := ownHoldings s

/-- The content of a group slot's frame (06, R107). A CLAIM's strength is read from the named
channel's delta; the channel of a queued CLAIM always has one. -/
def groupContent (s : State) (g : Group) : GroupFrame → Frame
  | .claim c => .claim ((strengthOf s.chans[c]).getD 1) s.number g c
  | .confirm c => .confirm s.number g c
  | .release c reason => .release s.number g c reason

/-- The content of the chosen slot's frame, taken at the attempt start (06, R107). -/
def contentOf (s : State) : TxSlot → Option Frame
  | .recal => some (.recal s.number)
  | .pulse => some (.pulse s.number (pulseContent s))
  | .group g => (s.queue.groups[g].frame).map (groupContent s g)

/-- An attempt starts on the chosen slot: its frame is marked in flight and its start bit is driven;
a PULSE that takes the stirred flag set sets the taken mark (05, R93; 06, R106; 07, R132). -/
def startOn (slot : TxSlot) (frame : Frame) (s : State) : State :=
  { s with
    queue := { s.queue with inFlight := some slot, withdrawnInFlight := false }
    link := { s.link with
      attempt := some { slot := slot, frame := frame, bit := 1, phase := .arbitrating }
      linkLow := true }
    cad := { s.cad with taken := s.cad.taken || (decide (slot = .pulse) && s.cad.stirred) } }

/-- The choice at an attempt start and its content (06, R106, R107). -/
def nextAttempt (s : State) : Option (TxSlot × Frame) :=
  match chooseSlot s.queue with
  | some slot => (contentOf s slot).map fun f => (slot, f)
  | none => none

/-- An attempt starts: in ONLINE, on an idle line, with no attempt in progress and a frame queued
(05, R93). -/
def startAttempt (s : State) : State :=
  if s.online = true ∧ s.link.line = .idle ∧ s.link.attempt = none then
    match nextAttempt s with
    | some (slot, frame) => startOn slot frame s
    | none => s
  else s

/-- ATTEMPT_START (05, R93). -/
def execAttemptStart (s : State) : Host.Outcome State Fault Refusal := .next (outOfReset startAttempt s)

/-- The link controller at a failing bit: one failure counted, driving stopped, the receiver seeking
with its run at 0 (05, R99). -/
def failLink (l : Link) : Link :=
  { l with
    line := .seeking 0, attempt := none, linkLow := false
    txFailures := satInc l.txFailures, consecutive := l.consecutive + 1 }

/-- An own attempt fails: the queue takes the failure, and the sixteenth in a row ends ONLINE (05,
R99, R101; 06, R116, R117; 08, R146, R148). -/
def failAttempt (slot : TxSlot) (s : State) : State :=
  let s1 := { s with queue := queueEnd slot s.queue, link := failLink s.link }
  if Config.failureRun ≤ s1.link.consecutive then
    if s.ctrl.leavePending then enterStopped .offline s1 else enterMuted s1
  else attemptEndHandled slot s1

/-- The attempt can end without success at `bit`: the first bit read other than sent, where one has been
read so, and else a bit not read yet (05, R94, R99). -/
def endsAt (a : Attempt) (line : Line) (bit : Nat) : Bool :=
  decide (a.bit ≤ bit) && match line with
    | .receiving bits =>
      if readAsSent a line then decide (bits.length < bit) else decide (bits.length = bit)
    | _ => true

/-- ATTEMPT_FAILURE (05, R99): at a bit at which this attempt can fail. -/
def execAttemptFailure (bit : Nat) (s : State) : Host.Outcome State Fault Refusal :=
  .next (outOfReset
    (fun t => match t.link.attempt with
      | some a => if canFailAt a.frame bit = true ∧ endsAt a t.link.line bit = true then failAttempt a.slot t else t
      | none => t) s)

/-- An own attempt loses arbitration at a bit: the station stops driving and goes on receiving the
winner's frame (05, R96; 06, R116, R117). -/
def loseArbitration (a : Attempt) (bit : Nat) (s : State) : State :=
  attemptEndHandled a.slot
    { s with
      queue := queueEnd a.slot s.queue
      link := { s.link with
        line := .receiving (bitsReadAtLoss a.frame bit), attempt := none, linkLow := false } }

/-- LOSS_OF_ARBITRATION (05, R96): at a bit at which this attempt can lose. -/
def execLossOfArbitration (bit : Nat) (s : State) : Host.Outcome State Fault Refusal :=
  .next (outOfReset
    (fun t => match t.link.attempt with
      | some a => if canLoseAt a.frame bit = true ∧ endsAt a t.link.line bit = true then loseArbitration a bit t else t
      | none => t) s)

/-- The tenth recessive bit in a row makes the line IDLE; before nine have been read the next is not
the tenth (05, R87, R92). -/
def lineIdle (s : State) : State :=
  match s.link.line with
  | .seeking run => if 9 ≤ run then { s with link := { s.link with line := .idle } } else s
  | _ => s

/-- LINE_IDLE (05, R92). -/
def execLineIdle (s : State) : Host.Outcome State Fault Refusal := .next (outOfReset lineIdle s)

/-- A dominant bit read in IDLE is a start bit (05, R87); an attempt that sent it goes on to its next bit
(05, R94). -/
def startBitRead (s : State) : State :=
  if s.link.line = .idle then { s with link := linkReads false s.link } else s

/-- START_BIT_READ (05, R87). -/
def execStartBitRead (s : State) : Host.Outcome State Fault Refusal := .next (outOfReset startBitRead s)

end Sys2Proof.Machine
end

