-- ==== Sys2Proof/Machine/Reset.lean ====
section
/-! DEFINITION. The meanings of FULL_RESET and RESET_ASSERTED (08, R136). -/

namespace Sys2Proof.Machine

/-- The full-reset values with the straps given; the queue of commands and the levels to come on the
wire are not the station's and stay. -/
def fullResetWith (straps : Straps) (s : State) : State :=
  { State.resetWith straps with pending := s.pending, wire := s.wire }

/-- FULL_RESET (08, R136, R137): the straps sampled, every block at its full-reset values, SETUP, the
setup hold timer started under AUTOJOIN. -/
def execFullReset (straps : Straps) (s : State) : Host.Outcome State Fault Refusal :=
  .next (fullResetWith straps s)

/-- Held in reset: what was in progress is lost without outcome and LINK, RPT and SDA are released
(08, R136). The straps are not sampled until the release; no timer runs. -/
def holdInReset (s : State) : State :=
  { fullResetWith s.ctrl.straps s with
    inReset := true
    ctrl := { resetController s.ctrl.straps with setupHold := none } }

/-- RESET_ASSERTED (08, R136). -/
def execResetAsserted (s : State) : Host.Outcome State Fault Refusal := .next (holdInReset s)

end Sys2Proof.Machine
end

