-- ==== Sys2Proof/Machine/Sense.lean ====
section
/-! DEFINITION. The meanings of the sense front end's events (01, 02). -/

namespace Sys2Proof.Machine

/-- A conversion completes when its time has elapsed: the count to the tracker, the seeding report to
the station controller, then the scan proceeds (01, R2, R3; 02, R19, R25). -/
def completeConversion (count : Nat) (s : State) : State :=
  match s.front.conversion with
  | some (slot, 0) =>
    if count ≤ Config.maxCount then scanProceeds slot (seedingReport (slotConversion slot count s)) else s
  | _ => s

/-- CONVERSION_COMPLETION (02, R19). -/
def execConversionCompletion (count : Nat) (s : State) : Host.Outcome State Fault Refusal :=
  .next (outOfReset (completeConversion count) s)

/-- The wait timer's expiry: a new scan phase (01, R4). -/
def waitExpires (s : State) : State :=
  match s.front.waitTimer with
  | some 0 => beginScan s
  | _ => s

/-- WAIT_TIMER_EXPIRY (01, R4). -/
def execWaitTimerExpiry (s : State) : Host.Outcome State Fault Refusal := .next (outOfReset waitExpires s)

end Sys2Proof.Machine
end

