-- ==== Sys2Proof/Machine/Timers.lean ====
section
/-! DEFINITION. The meanings of the timer expiries and of the millisecond tick. A stopped timer has no
expiry (00_scope, Conventions) and a running one has none before its time is up, so there the event does
not occur and nothing changes (log 3). -/

namespace Sys2Proof.Machine

/-- The contest timer of `g` expires: it stops, and the CONFIRM of the holder is requested (03,
R51). -/
def contestExpires (g : Group) (s : State) : State :=
  match s.table.entries[g] with
  | .contested h st abandon (some 0) =>
    (s.setEntry g (.contested h st abandon none)).requestConfirm g h.channel
  | _ => s

/-- CONTEST_TIMER_EXPIRY (03, R51). -/
def execContestTimerExpiry (g : Group) (s : State) : Host.Outcome State Fault Refusal :=
  .next (outOfReset (contestExpires g) s)

/-- The abandon timer of `g` expires: FREE, the abandoned count, a local holder's loss (03, R53). -/
def abandonExpires (g : Group) (s : State) : State :=
  match s.table.entries[g] with
  | .contested h _ 0 _ =>
    let s1 := (holderLoses g h s).setEntry g .free
    handOnChanges s.table.entries
      { s1 with table := { s1.table with abandoned := satInc s1.table.abandoned } }
  | _ => s

/-- ABANDON_TIMER_EXPIRY (03, R53). -/
def execAbandonTimerExpiry (g : Group) (s : State) : Host.Outcome State Fault Refusal :=
  .next (outOfReset (abandonExpires g) s)

/-- The guard timer of `g` expires: FREE, and the group's candidates evaluated (03, R55). -/
def guardExpires (g : Group) (s : State) : State :=
  match s.table.entries[g] with
  | .guarded 0 => handOnChanges s.table.entries (s.setEntry g .free)
  | _ => s

/-- GUARD_TIMER_EXPIRY (03, R55). -/
def execGuardTimerExpiry (g : Group) (s : State) : Host.Outcome State Fault Refusal :=
  .next (outOfReset (guardExpires g) s)

/-- The hold timer of a PRESSED channel expires: RELEASE (STUCK) requested, SEEDING with the baseline
kept (04, R81). -/
def holdExpires (c : Channel) (s : State) : State :=
  if s.chans[c].state = .pressed ∧ s.chans[c].holdTimer = some 0 then
    (leaveClaimSide .stuck c s).setChan c (toSeeding s.chans[c])
  else s

/-- HOLD_TIMER_EXPIRY (04, R81). -/
def execHoldTimerExpiry (c : Channel) (s : State) : Host.Outcome State Fault Refusal :=
  .next (outOfReset (holdExpires c) s)

/-- The PULSE interval timer expires: a routine PULSE requested (06, R114). -/
def intervalExpires (s : State) : State :=
  match s.queue.intervalTimer with
  | some 0 => ({ s with queue := { s.queue with intervalTimer := none } }).requestPulse true
  | _ => s

/-- PULSE_INTERVAL_TIMER_EXPIRY (06, R114). -/
def execPulseIntervalTimerExpiry (s : State) : Host.Outcome State Fault Refusal :=
  .next (outOfReset intervalExpires s)

/-- A peer's last-heard timer expires: ABSENT, PEER-LOST, its groups freed (07, R123; 03, R63). -/
def peerExpires (p : Station) (s : State) : State :=
  if s.roster[p].present = true ∧ s.roster[p].lastHeard = some 0 then
    handOnChanges s.table.entries
      (freePeer p .peerLost ((s.setRoster p absentEntry).put (.peerLost p)))
  else s

/-- LAST_HEARD_TIMER_EXPIRY (07, R123). -/
def execLastHeardTimerExpiry (p : Station) (s : State) : Host.Outcome State Fault Refusal :=
  .next (outOfReset (peerExpires p) s)

/-- The quiet timer expires: it stops and the cadence passes to SLACK (07, R131). -/
def quietExpires (s : State) : State :=
  match s.cad.quiet with
  | .running 0 => changeCadence .slack { s with cad := { s.cad with quiet := .stopped } }
  | _ => s

/-- QUIET_TIMER_EXPIRY (07, R131). -/
def execQuietTimerExpiry (s : State) : Host.Outcome State Fault Refusal := .next (outOfReset quietExpires s)

/-- The setup hold expires in SETUP: the block is validated as for a JOIN (08, R141). -/
def setupHoldExpires (s : State) : State :=
  if s.ctrl.state = .setup ∧ s.ctrl.setupHold = some 0 then tryJoin s else s

/-- SETUP_HOLD_TIMER_EXPIRY (08, R141). -/
def execSetupHoldTimerExpiry (s : State) : Host.Outcome State Fault Refusal :=
  .next (outOfReset setupHoldExpires s)

/-- The listen window ends: ONLINE (08, R144, R145). -/
def listenExpires (s : State) : State :=
  if s.ctrl.state = .listen ∧ s.ctrl.listenTimer = some 0 then enterOnline s else s

/-- LISTEN_TIMER_EXPIRY (08, R144). -/
def execListenTimerExpiry (s : State) : Host.Outcome State Fault Refusal := .next (outOfReset listenExpires s)

/-- The mute period ends: LISTEN (08, R146). -/
def muteExpires (s : State) : State :=
  if s.ctrl.state = .muted ∧ s.ctrl.muteTimer = some 0 then enterListen s else s

/-- MUTE_TIMER_EXPIRY (08, R146). -/
def execMuteTimerExpiry (s : State) : Host.Outcome State Fault Refusal := .next (outOfReset muteExpires s)

/-- The millisecond is completed: what is left of it passes and the clock goes up by one, from 65535 to
0 (09, R153). -/
def tickMillisecond (s : State) : State :=
  let s1 := elapse (msUs - s.sinceTick) s
  { s1 with sinceTick := 0, log := { s1.log with clock := s1.log.clock + 1#16 } }

/-- MILLISECOND_CLOCK_TICK (09, R153). -/
def execMillisecondClockTick (s : State) : Host.Outcome State Fault Refusal :=
  .next (outOfReset tickMillisecond s)

end Sys2Proof.Machine
end

