-- ==== Sys2Proof/Machine/Dispatch.lean ====
section
/-! DEFINITION. The meaning of every command: one arm per row of spec/opcode_table.json. -/

namespace Sys2Proof.Machine

def exec (i : Instr) (s : State) : Host.Outcome State Fault Refusal :=
  match i with
  | .fullReset straps => Sys2Proof.Machine.execFullReset straps s
  | .conversionCompletion count => Sys2Proof.Machine.execConversionCompletion count s
  | .waitTimerExpiry => Sys2Proof.Machine.execWaitTimerExpiry s
  | .frameHeard frame => Sys2Proof.Machine.execFrameHeard frame s
  | .frameDiscarded bits => Sys2Proof.Machine.execFrameDiscarded bits s
  | .attemptStart => Sys2Proof.Machine.execAttemptStart s
  | .attemptFailure bit => Sys2Proof.Machine.execAttemptFailure bit s
  | .lossOfArbitration bit => Sys2Proof.Machine.execLossOfArbitration bit s
  | .contestTimerExpiry group => Sys2Proof.Machine.execContestTimerExpiry group s
  | .abandonTimerExpiry group => Sys2Proof.Machine.execAbandonTimerExpiry group s
  | .guardTimerExpiry group => Sys2Proof.Machine.execGuardTimerExpiry group s
  | .holdTimerExpiry channel => Sys2Proof.Machine.execHoldTimerExpiry channel s
  | .pulseIntervalTimerExpiry => Sys2Proof.Machine.execPulseIntervalTimerExpiry s
  | .lastHeardTimerExpiry peer => Sys2Proof.Machine.execLastHeardTimerExpiry peer s
  | .quietTimerExpiry => Sys2Proof.Machine.execQuietTimerExpiry s
  | .setupHoldTimerExpiry => Sys2Proof.Machine.execSetupHoldTimerExpiry s
  | .listenTimerExpiry => Sys2Proof.Machine.execListenTimerExpiry s
  | .muteTimerExpiry => Sys2Proof.Machine.execMuteTimerExpiry s
  | .millisecondClockTick => Sys2Proof.Machine.execMillisecondClockTick s
  | .hostTransactionStart addressByte => Sys2Proof.Machine.execHostTransactionStart addressByte s
  | .hostTransactionEnd how => Sys2Proof.Machine.execHostTransactionEnd how s
  | .join => Sys2Proof.Machine.execJoin s
  | .restart => Sys2Proof.Machine.execRestart s
  | .reseed => Sys2Proof.Machine.execReseed s
  | .panelRecal => Sys2Proof.Machine.execPanelRecal s
  | .leave => Sys2Proof.Machine.execLeave s
  | .clearCounters => Sys2Proof.Machine.execClearCounters s
  | .unknownCommand code => Sys2Proof.Machine.execUnknownCommand code s
  | .setupWindowWrite value => Sys2Proof.Machine.execSetupWindowWrite value s
  | .cursorWrite value => Sys2Proof.Machine.execCursorWrite value s
  | .registerWrite value => Sys2Proof.Machine.execRegisterWrite value s
  | .recordWindowRead acknowledged => Sys2Proof.Machine.execRecordWindowRead acknowledged s
  | .eventWindowRead acknowledged => Sys2Proof.Machine.execEventWindowRead acknowledged s
  | .valueLatchRead acknowledged => Sys2Proof.Machine.execValueLatchRead acknowledged s
  | .lineIdle => Sys2Proof.Machine.execLineIdle s
  | .startBitRead => Sys2Proof.Machine.execStartBitRead s
  | .resetAsserted => Sys2Proof.Machine.execResetAsserted s

end Sys2Proof.Machine
end

