-- ==== Sys2Proof/Safety.lean ====
section
/-! DEFINITION. What a coherent station is: the conditions the spec puts on each block's state, in the
terms the statements use. Each is kept by every step. -/

namespace Sys2Proof.Machine

/-! ### Event log (09) -/

/-- At most 32 records, numbered without a gap up to the next number, RPT low exactly while a record
is held, and refusals counted only while the log is full (09, R154, R156 to R158). -/
abbrev LogInv (l : EventLog) : Prop :=
  l.records.length ≤ Config.logCapacity
    ∧ (∀ i, (h : i < l.records.length) →
        l.records[i].number + BitVec.ofNat 8 (l.records.length - i) = l.nextNumber)
    ∧ l.rptLow = !l.records.isEmpty
    ∧ (l.lostCount ≠ 0#8 → l.records.length = Config.logCapacity)

/-! ### Sense front end (01) -/

/-- The front end scans exactly in the states that scan; in SCAN the slot being converted is the
position, a slot of the scan list, in WAIT the wait timer alone runs; the scan list holds key channels,
and the reference slot only with a reference host (01, R1, R3, R4, R6). -/
abbrev FrontInv (s : State) : Prop :=
  (s.front.phase.isSome = scanning s.ctrl.state)
    ∧ (s.front.waitTimer.isSome = true ↔ s.front.phase = some .wait)
    ∧ (s.front.position.isSome = true ↔ s.front.phase = some .scan)
    ∧ s.front.conversion.map Prod.fst = s.front.position
    ∧ (s.front.position.all fun slot => decide (slot ∈ s.front.scanList)) = true
    ∧ (∀ c : Channel, .channel c ∈ s.front.scanList → s.isKey c = true)
    ∧ (.reference ∈ s.front.scanList → s.tracker.settings.refHost.isSome = true)

/-! ### Channel records (01, 02) -/

/-- A channel record under the settings in force: its counts and counters in their ranges, the fields
that belong to one state present in it alone, and the delta that of its baseline and count (01, R11 to
R15; 02, 2.1, R20, R23, R27, R28, R30, R32; 04, R79). -/
abbrev ChanInv (st : Settings) (isRef : Bool) (r : Chan) : Prop :=
  (r.count.all fun n => decide (n ≤ Config.maxCount)) = true
    ∧ (r.baseline.all fun b => decide (b ≤ Config.maxCount)) = true
    ∧ r.rail < Config.railRun
    ∧ (r.inRange.isSome = true ↔ r.state = .faulted)
    ∧ (r.inRange.all fun n => decide (n < Config.railRun)) = true
    ∧ (r.seed.isSome = true ↔ r.state = .seeding)
    ∧ (r.seed.all fun p => decide (p.2 < Config.seedRun) && decide (p.1 ≤ Config.maxCount * p.2)) = true
    ∧ (r.holdTimer.isSome = true → r.state = .pressed)
    ∧ (r.deviation.isSome = true → isRef = true)
    ∧ r.antiTouch < Config.antiTouchRun
    ∧ (r.touchDebounce = 0 ∨ r.touchDebounce < st.touchDebounce)
    ∧ (r.liftDebounce = 0 ∨ r.liftDebounce < st.liftDebounce)
    ∧ (r.drift = 0 ∨ (-(st.driftPeriod : Int) < r.drift ∧ r.drift < (st.driftPeriod : Int)))
    ∧ (r.state = .off ∨ r.state = .seeding → r.delta = none)
    ∧ (isRef = true ∨ r.state = .faulted ∨ r.delta = none
        ∨ r.delta = r.baseline.bind fun b => r.count.map fun n => deltaOf b n)

/-- Every channel record is coherent, and only key channels are touched: a record in ARMING or on the
claim side is a key channel's (01, R1; 02, R26). -/
abbrev ChannelInv (s : State) : Prop :=
  (∀ c : Channel, ChanInv s.tracker.settings (decide (s.tracker.settings.refHost = some c)) s.chans[c])
    ∧ ∀ c : Channel, s.chans[c].state = .arming ∨ claimSide s.chans[c].state = true → s.isKey c = true

/-! ### Station controller, link and what stops outside a state (05, 06, 08) -/

/-- What each station state fixes: the lock is open in SETUP alone, the listen and mute timers run in
LISTEN and MUTED alone, LEAVE is pending and attempts are made in ONLINE alone, the receiver and hush
run where they may, in SEEDING some record is still seeding, and outside ONLINE the queue is empty and
no channel is CONTENDING or PRESSED (04, R69; 05, R87, R93, R101; 06, R118; 08, R138, R141, R143, R144,
R146, R147; 02, R42). -/
abbrev StationInv (s : State) : Prop :=
  (s.ctrl.lockOpen = true ↔ s.ctrl.state = .setup)
    ∧ (s.ctrl.listenTimer.isSome = true ↔ s.ctrl.state = .listen)
    ∧ (s.ctrl.muteTimer.isSome = true ↔ s.ctrl.state = .muted)
    ∧ (s.ctrl.setupHold.isSome = true → s.ctrl.state = .setup)
    ∧ (s.ctrl.leavePending = true → s.ctrl.state = .online)
    ∧ (s.link.line = .stopped ↔ receiving s.ctrl.state = false)
    ∧ (s.link.attempt.isSome = true → s.ctrl.state = .online)
    ∧ (s.link.linkLow = true → s.link.attempt.isSome = true)
    ∧ (s.tracker.hushed = true → scanning s.ctrl.state = true)
    ∧ s.tracker.settle.isSome = s.tracker.hushed
    ∧ s.link.consecutive < Config.failureRun
    ∧ (s.ctrl.state = .seeding → ∃ c : Channel, s.chans[c].state = .seeding)
    ∧ (s.ctrl.state ≠ .online → s.link.consecutive = 0 ∧ s.queue = emptyQueue
        ∧ ∀ c : Channel, s.chans[c].state ≠ .contending ∧ s.chans[c].state ≠ .pressed)

/-! ### Transmit queue (06) -/

/-- The slot holds a frame. -/
def slotHeld (q : TxQueue) : TxSlot → Bool
  | .recal => q.recal
  | .pulse => q.pulse
  | .group g => q.groups[g].frame.isSome

/-- The slot in flight is the attempt's and holds a frame; a follow-up stands only behind a CLAIM or a
CONFIRM in flight; the renewal mark belongs to a PULSE in flight, the withdrawn mark to a group's frame
(06, R105, R106, R110, R111, R113). -/
abbrev QueueInv (s : State) : Prop :=
  s.queue.inFlight = s.link.attempt.map Attempt.slot
    ∧ (s.queue.inFlight.all fun slot => slotHeld s.queue slot) = true
    ∧ (∀ g : Group, s.queue.groups[g].followUp.isSome = true →
        s.queue.inFlight = some (.group g)
          ∧ (s.queue.groups[g].frame.any fun f => isClaim f || isConfirm f) = true)
    ∧ (s.queue.renewal = true → s.queue.inFlight = some .pulse)
    ∧ (s.queue.withdrawnInFlight = true → (s.queue.inFlight.any fun slot => (slotGroup slot).isSome) = true)

/-! ### Roster and claim table (03, 07) -/

/-- A group entry within its ranges: a CONTESTED entry has the strength of a CLAIM and at most its
abandon limit, a contest timer stands for a local holder alone, a GUARD has at most its guard time
(03, R43, R50, R53, R54). -/
def entryInRange (own : Station) : Entry → Bool
  | .free => true
  | .contested h st abandon contest =>
    decide (1 ≤ st) && decide (st ≤ Config.maxStrength) && decide (abandon ≤ abandonUs)
      && (contest.isNone || decide (h.station = own))
  | .owned _ st _ => decide (st ≤ Config.maxStrength)
  | .guarded remaining => decide (remaining ≤ guardUs)

/-- The own entry is PRESENT exactly in ONLINE and has no last-heard timer; a peer's timer runs exactly
while it is PRESENT; PULSE fields stand only in a PRESENT entry; while the receiver is stopped every
entry is ABSENT and every group FREE; and a group is held only by this station or by a PRESENT peer
(07, R119, R124, R125, R126; 03, R43, R44, R63). -/
abbrev PanelInv (s : State) : Prop :=
  (s.roster[s.number].present = true ↔ s.ctrl.state = .online)
    ∧ s.roster[s.number].lastHeard = none
    ∧ (∀ p : Station, p ≠ s.number → s.roster[p].lastHeard.isSome = s.roster[p].present)
    ∧ (∀ p : Station, s.roster[p].announced.isSome = true → s.roster[p].present = true)
    ∧ (receiving s.ctrl.state = false →
        (∀ p : Station, s.roster[p] = absentEntry) ∧ ∀ g : Group, s.table.entries[g] = .free)
    ∧ (∀ g : Group, entryInRange s.number s.table.entries[g] = true)
    ∧ (∀ g : Group, ((entryHolder s.table.entries[g]).all fun h =>
        decide (h.station = s.number) || s.roster[h.station].present) = true)

/-! ### Cadence control (07) -/

/-- The quiet timer runs only in BRISK and while scanning runs, and is held there exactly while an
entry is CONTESTED or OWNED; the taken mark stands only with the stirred flag (07, R130, R132,
R134). -/
abbrev CadenceInv (s : State) : Prop :=
  (s.cad.cadence = .slack → s.cad.quiet = .stopped)
    ∧ (scanning s.ctrl.state = false → s.cad.quiet = .stopped)
    ∧ (s.cad.cadence = .brisk → scanning s.ctrl.state = true → s.cad.quiet ≠ .stopped
        ∧ (s.cad.quiet = .held ↔ tableBusy s.table.entries = true))
    ∧ (s.cad.taken = true → s.cad.stirred = true)

/-! ### When a frame ends, and in what order frames go out -/

/-- The receiver stands ready to hear the intact frame `f`, with no attempt of this station's own: the
bits read so far are its first ones (05, R88, R91). -/
abbrev Receives (f : Frame) (s : State) : Prop :=
  s.inReset = false ∧ receiving s.ctrl.state = true ∧ s.link.attempt = none ∧ f.wellFormed = true
    ∧ ∃ bits, s.link.line = .receiving bits ∧ bits.isPrefixOf (frameBits f) = true

/-- The bits of the frame in assembly, none where there is none (05, R87). -/
def bitsRead : Line → List Bool
  | .receiving bits => bits
  | _ => []

/-- The attempt `a` of this station's own stands ready to end in success: the bits of it that have been
stepped through were read as sent (05, R97; log 5). -/
abbrev Sends (a : Attempt) (s : State) : Prop :=
  s.inReset = false ∧ receiving s.ctrl.state = true ∧ s.link.attempt = some a ∧ a.frame.wellFormed = true
    ∧ (bitsRead s.link.line).isPrefixOf (frameBits a.frame) = true

/-- The attempt `a` can end without success at `bit`: a bit not stepped through, while the bits read were
read as sent; and the first bit that was not, once there is one (05, R94, R99; log 5). -/
abbrev EndsAt (a : Attempt) (bit : Nat) (s : State) : Prop :=
  s.inReset = false ∧ s.link.attempt = some a ∧ a.bit ≤ bit
    ∧ (if (bitsRead s.link.line).isPrefixOf (frameBits a.frame) = true then
        (bitsRead s.link.line).length < bit
      else (bitsRead s.link.line).length = bit)

/-- The place of a slot in the attempt order: RECAL, RELEASEs, CONFIRMs and CLAIMs each in ascending
group order, then the PULSE (06, R106). -/
def attemptRank (q : TxQueue) : TxSlot → Nat
  | .recal => 0
  | .group g => match q.groups[g].frame with
    | some (.release _ _) => 1 + g.val
    | some (.confirm _) => 9 + g.val
    | _ => 17 + g.val
  | .pulse => 25

/-- PEER-JOINED, where peer `p` was ABSENT (07, R120). -/
def joinedEvents (s : State) (p : Station) : List Event :=
  if s.roster[p].present then [] else [.peerJoined p]

/-- CADENCE (BRISK), where an activity event finds the station SLACK (07, R129). -/
def wakeEvents (s : State) : List Event :=
  if s.cad.cadence = .slack then [.cadence s.number .brisk] else []

/-- The quiet timer in BRISK with the table as given: held while an entry is CONTESTED or OWNED, else
running with the full quiet period (07, R130). -/
def quietWith (s : State) (entries : Vector Entry 8) : QuietTimer :=
  if tableBusy entries then .held else .running s.tracker.settings.quietUs

/-- Some entry differs in state, holder or strength (03, R45). -/
abbrev TableDiffers (old new : Vector Entry 8) : Prop := ∃ g : Group, standing new[g] ≠ standing old[g]

/-- Cadence control after a frame heard or a timer's expiry that left the table as given: at an activity
event BRISK with the quiet timer afresh, and else, at a change of the table in BRISK, the quiet timer by the
table's report (07, R128 to R130). -/
def cadenceAfter (active : Bool) (s : State) (entries : Vector Entry 8) : CadenceControl :=
  if active then { s.cad with cadence := .brisk, quiet := quietWith s entries }
  else if s.cad.cadence = .brisk ∧ TableDiffers s.table.entries entries then
    { s.cad with quiet := quietWith s entries }
  else s.cad

/-- The queue `q` after an activity event, which in ONLINE asks for a PULSE where it finds the station
SLACK: an empty slot takes it, a queued one merges with it, and one in flight is renewed (06, R113; 07,
R129). -/
def queueAtWake (s : State) (q : TxQueue) : TxQueue :=
  if s.cad.cadence = .slack ∧ s.ctrl.state = .online then
    { q with pulse := true, renewal := q.renewal || (q.pulse && decide (q.inFlight = some .pulse)) }
  else q

/-- The entry of a peer after a frame other than a PULSE: PRESENT, the fields kept, the last-heard timer
at 1500 ms where the peer announced SLACK and at 150 ms where it announced BRISK or nothing (07, R120,
R122). -/
def heardAgain (e : RosterEntry) : RosterEntry where
  present := true
  lastHeard := some (match e.announced with
    | some a => (match a.cadence with
      | .slack => 1500000
      | .brisk => 150000)
    | none => 150000)
  announced := e.announced

/-! ### Groups lost by a channel of this station (03, 06) -/

/-- A group slot after a withdrawal of the frames that `reached` names: a frame not in flight and a
follow-up are removed, and a frame in flight stays without its follow-up (06, R111). -/
def slotAfterWithdrawal (flying : Bool) (reached : Channel → Bool) (sl : GroupSlot) : GroupSlot :=
  let hit := sl.frame.any fun f => reached (frameChannel f)
  { frame := if hit && !flying then none else sl.frame
    followUp := if (hit && flying) || sl.followUp.any (fun f => reached f.1) then none else sl.followUp }

/-- The slot's frame is in flight and reached by the withdrawal, and so marked withdrawn (06, R111). -/
def markedWithdrawn (q : TxQueue) (g : Group) (reached : Channel → Bool) : Bool :=
  decide (q.inFlight = some (.group g)) && q.groups[g].frame.any fun f => reached (frameChannel f)

/-- The station once the holder of group `g` has lost it by displacement or by its abandon limit: where it
is a channel of this station, a CONTENDING one passes to SUPPRESSED and its frames are withdrawn (03, R47,
R53; 06, R111). -/
def afterLoss (g : Group) (h : Holder) (s : State) : State :=
  if h.station = s.number then
    { s with
      chans := if s.chans[h.channel].state = .contending then
          s.chans.set h.channel { s.chans[h.channel] with state := .suppressed, holdTimer := none }
        else s.chans
      queue := { setSlot s.queue g (slotAfterWithdrawal (decide (s.queue.inFlight = some (.group g)))
          (fun d => decide (d = h.channel)) s.queue.groups[g]) with
        withdrawnInFlight := s.queue.withdrawnInFlight
          || markedWithdrawn s.queue g fun d => decide (d = h.channel) } }
  else s

/-- The entry is CONTESTED with holder `h` (03, R52). -/
def isContestOf (h : Holder) (e : Entry) : Bool :=
  match e with
  | .contested old _ _ _ => decide (old = h)
  | _ => false

/-- A CLAIM of holder `h` makes it the holder of a group with entry `e`: a FREE or GUARD group, and a
CONTESTED one of another holder and a smaller strength (03, R46 to R48). -/
def claimIsTaken (e : Entry) (h : Holder) (strength : Nat) : Bool :=
  match e with
  | .free => true
  | .guarded _ => true
  | .contested old held _ _ => decide (old ≠ h ∧ held < strength)
  | .owned _ _ _ => false

/-- The station once a CLAIM that is taken has displaced the holder of group `g` (03, R47). -/
def afterDisplacement (g : Group) (h : Holder) (strength : Nat) (s : State) : State :=
  match s.table.entries[g] with
  | .contested old held abandon contest =>
    if claimIsTaken (.contested old held abandon contest) h strength then afterLoss g old s else s
  | _ => s

/-- The channel of this station that loses group `g` to the pair that peer `p` lists for it (03, R61,
R62). -/
def listedLoser (s : State) (p : Station) (holdings : List (Group × Channel)) (g : Group) : Option Channel :=
  match holdings.find? (fun pair => decide (pair.1 = g)), entryHolder s.table.entries[g] with
  | some _, some h => if h.station = s.number ∧ p < s.number then some h.channel else none
  | _, _ => none

/-- The station once its channels have given up the groups that peer `p` lists: a CONTENDING or PRESSED one
passes to SUPPRESSED, and every frame of the group is withdrawn (03, R62; 06, R111). -/
def afterListing (p : Station) (holdings : List (Group × Channel)) (s : State) : State :=
  let loser := listedLoser s p holdings
  { s with
    chans := each (fun c r =>
        if (∃ g, loser g = some c) ∧ (r.state = .contending ∨ r.state = .pressed) then
          { r with state := .suppressed, holdTimer := none }
        else r) s.chans
    queue := { s.queue with
      groups := each (fun g sl => if (loser g).isSome then
          slotAfterWithdrawal (decide (s.queue.inFlight = some (.group g))) (fun _ => true) sl
        else sl) s.queue.groups
      withdrawnInFlight := s.queue.withdrawnInFlight
        || (List.finRange 8).any fun g => (loser g).isSome && markedWithdrawn s.queue g fun _ => true } }

/-! ### Changes of station state (08) -/

/-- The records of a change of station state: KEY-UP (CLEARED) for each group a local channel owned, in
ascending group order, then STATION (03, R64; 08, R135). -/
def clearedEvents (s : State) (st : StationState) : List Event :=
  keyUps s.isLocal .cleared s.table.entries ++ [.station s.number st]

/-- A record right after a start, for a slot that is scanned (02, R22, R41; 01, R10). -/
def seedingFresh (setup : ChannelSetup) (count : Option Nat) : Chan where
  setup := setup
  state := .seeding
  baseline := none
  count := count
  delta := none
  deviation := none
  touchDebounce := 0
  liftDebounce := 0
  drift := 0
  antiTouch := 0
  seed := some (0, 0)
  rail := 0
  inRange := none
  holdTimer := none

/-- The scan list that a setup block gives (01, R1). -/
def scanListFor (b : SetupBlock) : List Slot :=
  (if (settingsOf b).refHost.isSome then [.reference] else [])
    ++ ((List.finRange 16).filter fun c =>
      (channelSetupOf b c).enabled && decide ((settingsOf b).refHost ≠ some c)).map Slot.channel

/-- The step setting of a slot under a setup block (01, R2). -/
def stepFor (b : SetupBlock) : Slot → Nat
  | .channel c => (channelSetupOf b c).step
  | .reference => match (settingsOf b).refHost with
    | some c => (channelSetupOf b c).step
    | none => 0

/-- What a change into SEEDING leaves of every block but the four counters and the host port, with a
scan list that has entries; with an empty one the station is in LISTEN and in WAIT at once (01, R1, R3,
R6; 02, R41; 03, R64; 05, R87; 06, R118; 07, R126, R134; 08, R142, R143). -/
def StartedFrom (s t : State) : Prop :=
  t.pending = s.pending ∧ t.wire = s.wire ∧ t.inReset = s.inReset ∧ t.sinceTick = s.sinceTick
    ∧ t.tracker = { hushed := false, settle := none, settings := settingsOf s.ctrl.block }
    ∧ (∀ c : Channel, t.chans[c] =
        if (channelSetupOf s.ctrl.block c).enabled ∨ (settingsOf s.ctrl.block).refHost = some c then
          seedingFresh (channelSetupOf s.ctrl.block c) s.chans[c].count
        else offChan (channelSetupOf s.ctrl.block c))
    ∧ (∀ g : Group, t.table.entries[g] = .free)
    ∧ t.queue = emptyQueue
    ∧ (∀ p : Station, t.roster[p] = absentEntry)
    ∧ t.cad = {
        cadence := .brisk, quiet := .running (settingsOf s.ctrl.block).quietUs, stirred := false
        taken := false }
    ∧ t.link.attempt = none ∧ t.link.linkLow = false
    ∧ (match scanListFor s.ctrl.block with
      | slot :: _ =>
        t.front = {
            scanList := scanListFor s.ctrl.block, phase := some .scan, position := some slot
            conversion := some (slot, (stepFor s.ctrl.block slot + 1) * 400), waitTimer := none
            cycle := 0#16 }
          ∧ t.link.line = .stopped
          ∧ t.ctrl = {
            state := .seeding, straps := s.ctrl.straps, block := s.ctrl.block, lockOpen := false
            setupHold := none, listenTimer := none, muteTimer := none, leavePending := false }
          ∧ t.log = (clearedEvents s .seeding ++ wakeEvents s).foldl logPut s.log
      | [] =>
        t.front = {
            scanList := [], phase := some .wait, position := none, conversion := none
            waitTimer := some (settingsOf s.ctrl.block).briskWaitUs, cycle := 1#16 }
          ∧ t.link.line = .seeking 0
          ∧ t.ctrl = {
            state := .listen, straps := s.ctrl.straps, block := s.ctrl.block, lockOpen := false
            setupHold := none, listenTimer := some 1200000, muteTimer := none, leavePending := false }
          ∧ t.log = (clearedEvents s .seeding ++ wakeEvents s ++ [Event.station s.number .listen]).foldl
            logPut s.log)

/-- What a change into HALTED or OFFLINE leaves (08, R150; 04, R84; 02, R42). -/
def StoppedFrom (st : StationState) (s t : State) : Prop :=
  t.pending = s.pending ∧ t.wire = s.wire ∧ t.inReset = s.inReset ∧ t.sinceTick = s.sinceTick
    ∧ t.front = { s.front with phase := none, position := none, conversion := none, waitTimer := none }
    ∧ t.tracker = { s.tracker with hushed := false, settle := none }
    ∧ (∀ c : Channel, t.chans[c] =
        if s.chans[c].state = .arming ∨ (s.ctrl.state = .online ∧ claimSide s.chans[c].state = true) then
          { s.chans[c] with
            state := .idle, touchDebounce := 0, liftDebounce := 0, antiTouch := 0, holdTimer := none }
        else s.chans[c])
    ∧ (∀ g : Group, t.table.entries[g] = .free)
    ∧ t.table.stray = s.table.stray ∧ t.table.abandoned = s.table.abandoned
    ∧ t.queue = emptyQueue
    ∧ t.link = {
        line := .stopped, attempt := none, linkLow := false, rxErrors := s.link.rxErrors
        txFailures := s.link.txFailures, consecutive := 0 }
    ∧ (∀ p : Station, t.roster[p] = absentEntry)
    ∧ t.cad.cadence = s.cad.cadence ∧ t.cad.quiet = .stopped
    ∧ t.ctrl = {
        state := st, straps := s.ctrl.straps, block := s.ctrl.block, lockOpen := s.ctrl.lockOpen
        setupHold := s.ctrl.setupHold, listenTimer := none, muteTimer := none, leavePending := false }
    ∧ t.log = (clearedEvents s st).foldl logPut s.log

/-! ### The seeding report and the evaluation of a group (04, 08) -/

/-- `u` itself, or, where it is in SEEDING and no record of it seeds, `u` passed on to LISTEN: the listen
timer at 1200 ms, the receiver seeking with its run at 0, STATION (LISTEN) logged (08, R143, R144; 05,
R87). A record that has recovered from FAULTED counts as seeding: the model's choice (log 20). -/
def leavesSeeding (u : State) : State :=
  if u.ctrl.state = .seeding ∧ ∀ d : Channel, u.chans[d].state ≠ .seeding then
    { u with
      ctrl := { u.ctrl with
        state := .listen, listenTimer := some 1200000, muteTimer := none, leavePending := false }
      link := { u.link with line := .seeking 0 }
      log := logPut u.log (.station u.number .listen) }
  else u

/-- A delta clipped to 1 to 1023, the strength it gives (02, R21). -/
def clipped (delta : Int) : Nat := if delta < 1 then 1 else if 1023 < delta then 1023 else delta.toNat

/-- Channel `c` is a candidate that the evaluation of group `g` judges: its CLAIM is not in flight (04,
R72). -/
def isJudged (s : State) (g : Group) (c : Channel) : Bool :=
  decide (s.chans[c].state = .candidate ∧ s.chans[c].setup.group = g
    ∧ ¬(s.queue.inFlight = some (.group g) ∧ s.queue.groups[g].frame = some (.claim c)))

/-- The entry suppresses a candidate of this delta: OWNED always, CONTESTED by an equal or greater
strength (04, R72). -/
def isBeaten (e : Entry) (delta : Option Int) : Bool :=
  match e, delta with
  | .owned _ _ _, _ => true
  | .contested _ held _ _, some d => decide (clipped d ≤ held)
  | _, _ => false

/-- The strength with which channel `c` is eligible for group `g`: in FREE, or in CONTESTED with a greater
strength than the entry's (04, R72). -/
def eligibleWith (s : State) (g : Group) (c : Channel) : Option Nat :=
  if isJudged s g c then
    match s.table.entries[g], s.chans[c].delta with
    | .free, some d => some (clipped d)
    | .contested _ held _ _, some d => if held < clipped d then some (clipped d) else none
    | _, _ => none
  else none

/-- Channel `c` is the choice of group `g`: eligible with the greatest strength, the lowest channel number
among equals (04, R73). -/
abbrev IsChoice (s : State) (g : Group) (c : Channel) : Prop :=
  ∃ best, eligibleWith s g c = some best
    ∧ ∀ (d : Channel) (n : Nat), eligibleWith s g d = some n → n < best ∨ (n = best ∧ c ≤ d)

/-- `t` is `s` after the evaluation of group `g`. A candidate judged and beaten is SUPPRESSED and no other
record of the group changes. An empty slot takes a CLAIM for the choice; a queued CLAIM then names the
choice, and where there is none it is withdrawn when its own channel is beaten or the entry is in GUARD;
a frame in flight, a CONFIRM and a RELEASE stay (04, R72, R73; 06, R108). -/
abbrev GroupEvaluated (s t : State) (g : Group) : Prop :=
  (∀ c : Channel, s.chans[c].setup.group = g → t.chans[c] =
      if isJudged s g c ∧ isBeaten s.table.entries[g] s.chans[c].delta then
        { s.chans[c] with state := .suppressed, holdTimer := none }
      else s.chans[c])
    ∧ t.queue.groups[g].followUp = s.queue.groups[g].followUp
    ∧ (match s.queue.groups[g].frame with
      | none =>
        (∀ c : Channel, IsChoice s g c → t.queue.groups[g].frame = some (.claim c))
          ∧ ((∀ c : Channel, eligibleWith s g c = none) → t.queue.groups[g].frame = none)
      | some (.claim b) =>
        if s.queue.inFlight = some (.group g) then t.queue.groups[g].frame = some (.claim b)
        else
          (∀ c : Channel, IsChoice s g c → t.queue.groups[g].frame = some (.claim c))
            ∧ ((∀ c : Channel, eligibleWith s g c = none) → t.queue.groups[g].frame =
              if standing s.table.entries[g] = .guarded
                  ∨ (isJudged s g b ∧ isBeaten s.table.entries[g] s.chans[b].delta) then none
              else some (.claim b))
      | some f => t.queue.groups[g].frame = some f)

/-! ### A channel that leaves its key state (01, 02, 04, 06) -/

/-- The group slot when its channel `c` leaves the state `st`, as the tables of R13, R36, R75, R77, R80 and
R81 give it; `flying` says that the slot's frame is in flight. A CANDIDATE's own CLAIM is withdrawn, or in
flight takes a follow-up RELEASE; for a CONTENDING channel a frame in flight takes a follow-up RELEASE and
any other makes way for the RELEASE; a PRESSED channel's slot takes the RELEASE. -/
def slotAfterLeave (st : ChanState) (flying : Bool) (c : Channel) (reason : Reason) (sl : GroupSlot) :
    GroupSlot :=
  match st with
  | .candidate =>
    if sl.frame ≠ some (.claim c) then sl
    else if flying then { frame := sl.frame, followUp := some (c, reason) }
    else { frame := none, followUp := none }
  | .contending =>
    if flying then { frame := sl.frame, followUp := some (c, reason) }
    else { frame := some (.release c reason), followUp := none }
  | .pressed => { frame := some (.release c reason), followUp := none }
  | _ => sl

/-- The group slot at HUSH-ON: the CLAIM of a CANDIDATE is withdrawn, or in flight takes a follow-up RELEASE
(WITHDRAWN); outside ONLINE, and where a follow-up stands or the frame in flight is withdrawn, nothing is
asked for (02, R36; 06, R110). -/
def slotAfterHush (s : State) (g : Group) (sl : GroupSlot) : GroupSlot :=
  let flying := decide (s.queue.inFlight = some (.group g))
  match sl.frame, sl.followUp with
  | some (.claim d), none =>
    if s.ctrl.state = .online ∧ s.chans[d].state = .candidate ∧ s.chans[d].setup.group = g
        ∧ ¬(flying ∧ s.queue.withdrawnInFlight) then
      slotAfterLeave .candidate flying d .withdrawn sl
    else sl
  | _, _ => sl

/-- The group slot stands as one of the rows of those tables. -/
def hasLeaveRow (st : ChanState) (flying withdrawn : Bool) (c : Channel) (sl : GroupSlot) : Bool :=
  let clear := sl.followUp.isNone && !(flying && withdrawn)
  match st, sl.frame with
  | .candidate, some (.claim d) => decide (d ≠ c) || clear
  | .contending, none => clear && !flying
  | .contending, some (.confirm d) => clear && decide (d = c)
  | .contending, some (.claim d) => clear && decide (d ≠ c)
  | .contending, some (.release _ _) => false
  | .pressed, none => clear && !flying
  | .pressed, some _ => false
  | _, _ => true

/-- Outside ONLINE every request is refused, and in it the group slot of channel `c` stands as a row. -/
abbrev LeavesByTable (s : State) (c : Channel) : Prop :=
  s.ctrl.state = .online →
    hasLeaveRow s.chans[c].state (decide (s.queue.inFlight = some (.group s.chans[c].setup.group)))
      s.queue.withdrawnInFlight c s.queue.groups[s.chans[c].setup.group] = true

/-- The entry of its group when channel `c` of this station leaves CONTENDING: the contest timer stops (03,
R50). -/
def entryAfterLeave (own : Station) (c : Channel) (st : ChanState) (e : Entry) : Entry :=
  match e with
  | .contested h held abandon contest =>
    if st = .contending ∧ h = { station := own, channel := c } then .contested h held abandon none
    else .contested h held abandon contest
  | e => e

/-- The station when channel `c` has left its key state and its record has become `r`: the contest timer
of a CONTENDING channel stopped, and in ONLINE the group slot as the tables give it. -/
def afterLeave (reason : Reason) (c : Channel) (r : Chan) (s : State) : State :=
  let g := s.chans[c].setup.group
  let st := s.chans[c].state
  { s with
    chans := s.chans.set c r
    table := { s.table with
      entries := s.table.entries.set g (entryAfterLeave s.number c st s.table.entries[g]) }
    queue := if s.ctrl.state = .online then
        setSlot s.queue g (slotAfterLeave st (decide (s.queue.inFlight = some (.group g))) c reason
          s.queue.groups[g])
      else s.queue }

/-! ### A group slot at the end of its attempt (04, 06) -/

/-- The slot of a failed attempt or of one that lost arbitration, once it is no longer in flight (06,
R116). -/
def slotAfterEnd (withdrawn : Bool) (sl : GroupSlot) : GroupSlot :=
  match withdrawn, sl.frame, sl.followUp with
  | true, _, _ => { frame := none, followUp := none }
  | false, some (.claim c), some (d, reason) =>
    if d = c then { frame := none, followUp := none }
    else { frame := some (.release d reason), followUp := none }
  | false, some (.confirm _), some (d, reason) => { frame := some (.release d reason), followUp := none }
  | false, _, _ => sl

/-- The slot of an attempt that succeeded, once it is no longer in flight: empty, or with the follow-up
promoted, a WITHDRAWN one as LIFT behind the own CONFIRM of its channel, `confirmed` (04, R82; 06, R115). -/
def slotAfterSuccess (confirmed : Option Channel) (withdrawn : Bool) (sl : GroupSlot) : GroupSlot :=
  match withdrawn, sl.followUp with
  | false, some (d, reason) => {
      frame := some (.release d (if confirmed = some d ∧ reason = .withdrawn then .lift else reason))
      followUp := none }
  | _, _ => { frame := none, followUp := none }

/-- The slot once the CONFIRM of a CONTENDING holder of this station whose contest timer has stopped is
requested again: it takes an empty slot or a queued CLAIM's place (04, R76; 06, R109, R117). -/
def slotConfirmedAgain (s : State) (g : Group) (sl : GroupSlot) : GroupSlot :=
  match s.table.entries[g] with
  | .contested h _ _ none =>
    if h.station = s.number ∧ s.chans[h.channel].state = .contending then
      match sl.frame with
      | none => { frame := some (.confirm h.channel), followUp := sl.followUp }
      | some (.claim _) => { frame := some (.confirm h.channel), followUp := sl.followUp }
      | some _ => sl
    else sl
  | _ => sl

/-! ### The bytes the host reads (11) -/

/-- A two-byte field, high byte first; FFFFH when absent (11, R182, R184). -/
def twoBytes : Option Nat → List Nat
  | some n => [n / 256, n % 256]
  | none => [0xFF, 0xFF]

/-- A signed two-byte field; 8000H when absent (11, R182). -/
def signedBytes : Option Int → List Nat
  | some d => twoBytes (some (d % 65536).toNat)
  | none => [0x80, 0x00]

/-- The station state code (11, R181). -/
def stationByte : StationState → Nat
  | .setup => 0 | .seeding => 1 | .listen => 2 | .online => 3 | .muted => 4 | .halted => 5 | .offline => 6

/-- The channel record layout, from 10H on; the reference host's record is shown as the reference record
(11, R183). Here and below a bit not used inside a used byte is 0 (log 22). -/
def channelLayout (s : State) (c : Channel) : List Nat :=
  let r := s.chans[c]
  let isRef := decide (s.tracker.settings.refHost = some c)
  [(if isRef then 0x80 else 0) + (match r.state with
      | .off => 0 | .seeding => 1 | .idle => 2 | .arming => 3 | .candidate => 4 | .contending => 5
      | .pressed => 6 | .suppressed => 7 | .faulted => 8),
    16 * c.val + setupAt s.ctrl.block c.val / 8 % 8]
    ++ twoBytes r.baseline ++ twoBytes r.count
    ++ (if isRef then twoBytes r.deviation else signedBytes r.delta) ++ signedBytes (some r.drift)
    ++ [if isRef then 0xFF else 16 * r.touchDebounce + r.liftDebounce,
        32 * (if isRef then 7 else r.antiTouch) + (r.seed.map Prod.snd).getD 31,
        r.rail, r.inRange.getD 0xFF]
    ++ twoBytes (if isRef then none else r.holdTimer.map (· / 100000))

/-- The group entry layout, from 10H on (11, R183). -/
def groupLayout (s : State) (g : Group) : List Nat :=
  match s.table.entries[g] with
  | .free => [0, g.val, 0xFF, 0xFF, 0xFF, 0xFF, 0xFF, 0xFF, 0xFF, 0xFF, 0, 0, 0, 0, 0, 0]
  | .contested h held abandon contest =>
    [(if contest.isSome then 0x80 else 0) + 1, g.val, h.station.val, h.channel.val]
      ++ twoBytes (some held) ++ [0xFF, 0xFF, abandon / 1000, 0xFF, 0, 0, 0, 0, 0, 0]
  | .owned h held since =>
    [2, g.val, h.station.val, h.channel.val] ++ twoBytes (some held) ++ twoBytes (some since.toNat)
      ++ [0xFF, 0xFF, 0, 0, 0, 0, 0, 0]
  | .guarded remaining =>
    [3, g.val, 0xFF, 0xFF, 0xFF, 0xFF, 0xFF, 0xFF, 0xFF, remaining / 1000, 0, 0, 0, 0, 0, 0]

/-- The roster entry layout, from 10H on (11, R183). -/
def rosterLayout (s : State) (p : Station) : List Nat :=
  let e := s.roster[p]
  [(if p = s.number then 0x80 else 0) + (if e.present then 1 else 0), p.val]
    ++ (match e.announced with
      | some a => [(match a.cadence with | .brisk => 0 | .slack => 4)
          + (if a.hushed then 2 else 0) + (if a.stirred then 1 else 0), a.holdings.length]
      | none => [0xFF, 0xFF])
    ++ twoBytes (e.lastHeard.map (· / 1000))
    ++ (List.range 8).map (fun i =>
      ((e.announced.bind fun a => a.holdings[i]?).map fun pair => 16 * pair.1.val + pair.2.val).getD 0xFF)
    ++ [0, 0]

/-- The sixteen bytes of the record that the cursor selects; the empty marker where it selects none (10,
R167, R174; 11, R182, R183). -/
def recordLayout (s : State) : List Nat :=
  let index := s.host.cursorIndex.toNat
  if s.host.cursorKind = 0#8 ∧ index < 16 then channelLayout s (Fin.ofNat 16 index)
  else if s.host.cursorKind = 1#8 ∧ index < 8 then groupLayout s (Fin.ofNat 8 index)
  else if s.host.cursorKind = 2#8 ∧ index < 16 then rosterLayout s (Fin.ofNat 16 index)
  else List.replicate 16 0xFF

/-- Kind code, station, channel, group and value of an event; absent where the kind has none (09, R152; 11,
11.6). -/
def eventFields : Event → Nat × Station × Option Nat × Option Nat × Option Nat
  | .keyDown h g held .confirmed => (0, h.station, some h.channel.val, some g.val, some held)
  | .keyDown h g held .adopted => (0, h.station, some h.channel.val, some g.val, some (0x8000 + held))
  | .keyUp h g reason => (1, h.station, some h.channel.val, some g.val, some (match reason with
      | .lift => 0 | .stuck => 1 | .reseed => 2 | .fault => 3 | .peerLost => 4 | .left => 5 | .recal => 6
      | .resync => 7 | .cleared => 8))
  | .peerJoined p => (2, p, none, none, none)
  | .peerLost p => (3, p, none, none, none)
  | .peerLeft p => (4, p, none, none, none)
  | .hushOn own deviation => (5, own, none, none, some deviation)
  | .hushOff own deviation => (6, own, none, none, deviation)
  | .channelFault own c => (7, own, some c.val, none, none)
  | .channelRecovered own c => (8, own, some c.val, none, none)
  | .cadence own cadence => (9, own, none, none, some (match cadence with | .brisk => 0 | .slack => 1))
  | .station own st => (10, own, none, none, some (stationByte st))
  | .lost own count => (11, own, none, none, some count.toNat)

/-- The eight bytes of the event window: a record's, or the empty marker (10, R168; 11, R182, 11.6). -/
def eventLayout : EventSnapshot → List Nat
  | .empty => List.replicate 8 0xFF
  | .record r =>
    let f := eventFields r.event
    [r.number.toNat] ++ twoBytes (some r.stamp.toNat)
      ++ [16 * f.1 + f.2.1.val, f.2.2.1.getD 0xFF, f.2.2.2.1.getD 0xFF] ++ twoBytes f.2.2.2.2

/-! ### Frames of a statement -/

/-- The blocks that no frame heard reaches: the front end, the station controller, the host port, the
tracker's settings, the reset pin, the time within the millisecond, and the model's own inputs. -/
abbrev SameOutsidePanel (s t : State) : Prop :=
  t.front = s.front ∧ t.ctrl = s.ctrl ∧ t.host = s.host ∧ t.tracker.settings = s.tracker.settings
    ∧ t.inReset = s.inReset ∧ t.sinceTick = s.sinceTick ∧ t.pending = s.pending ∧ t.wire = s.wire

end Sys2Proof.Machine
end

