-- ==== Sys2Proof/Certificates/Slice0/Obligations.lean ====
section
/-! DEFINITION. The statements for the provers: what each command does, what it leaves as it was, and
what every step keeps. -/

open Sys2Proof Sys2Proof.Machine

/-! ### The machine -/

/-- One step takes the command at the front of the queue and runs it on the station with the queue's
rest. The queue of commands is the model's own (log 17, DESIGN CHOICE): the spec gives events at a
station, and no queue of them. -/
def Obligations.StepRunsFrontCommand : Prop :=
  ∀ (c : Instr) (rest : List Instr) (s : State), s.pending = c :: rest →
    step s = exec c { s with pending := rest }

/-- With no command waiting, time passes by one bit time of 8 µs and never past the end of the millisecond;
in reset, at the end of a millisecond, and where the bits read call for an event of the link, it waits for
the command and nothing changes. In the bit time one level is read from the line, the next of those the
other stations give it, recessive beyond them. Without an attempt it acts as the table of R87 shows: it
counts a run up to the tenth recessive bit, is a start bit, or is the next bit of a frame not yet judged.
With an attempt in progress the bit read back, dominant where any station drives it so, is the next bit of
the frame in assembly; read as sent and not the last, the attempt sends the next bit, and else its end is
due, a loss, a failure or the success (R86, R87, R94, R97, R99). That time passes in steps (log 3) and that
the levels to come stand in the state (log 4) is the model's choice. -/
def Obligations.IdleStepIsOneBitTime : Prop :=
  ∀ s : State, s.pending = [] →
    (s.inReset = true → step s = .next s)
    ∧ (1000 ≤ s.sinceTick → step s = .next s)
    ∧ (∀ bits a, s.link.line = .receiving bits → s.link.attempt = some a → a.bit ≤ bits.length →
        step s = .next s)
    ∧ (∀ bits, s.link.line = .receiving bits → s.link.attempt = none →
        ((∃ f, judge bits = .heard f) ∨ ∃ run, judge bits = .discarded run) → step s = .next s)
    ∧ (s.inReset = false → s.sinceTick < 1000 →
        (∀ bits, s.link.line = .receiving bits → match s.link.attempt with
          | some a => bits.length < a.bit
          | none => judge bits = .assembling) →
        let bit : Bool := match s.wire with
          | [] => true
          | level :: _ => level
        ∃ t, step s = .next t
          ∧ { t with link := s.link } =
              { elapse (min 8 (1000 - s.sinceTick)) s with
                sinceTick := s.sinceTick + min 8 (1000 - s.sinceTick), wire := s.wire.tail }
          ∧ t.link = match s.link.attempt with
            | none => { s.link with line := match s.link.line with
              | .stopped => .stopped
              | .seeking run =>
                if bit = false then .seeking 0 else if run + 1 < 10 then .seeking (run + 1) else .idle
              | .idle => if bit = false then .receiving [false] else .idle
              | .receiving bits => .receiving (bits ++ [bit]) }
            | some a =>
              let sent : Bool := decide ((frameBits a.frame)[a.bit - 1]? ≠ some false)
              let level : Bool := sent && bit
              let read := Line.receiving ((frameBits a.frame).take (a.bit - 1) ++ [level])
              if level ≠ sent ∨ (frameBits a.frame).length ≤ a.bit then { s.link with line := read }
              else { s.link with
                line := read
                attempt := some {
                  slot := a.slot, frame := a.frame, bit := a.bit + 1
                  phase := if a.bit + 1 ≤ arbitrationEnd a.frame then .arbitrating else .sending }
                linkLow := (frameBits a.frame)[a.bit]? == some false })

/-! ### Full reset (08, R136) -/

/-- FULL_RESET samples the straps and puts every block at its full-reset values, in SETUP (R9, R40, R68,
R102, R118, R126, R134, R136, R137, R141, R161, R176, R179). What the model takes as input, the queue of
commands (log 17) and the levels to come on the line (log 4), stays; the release threshold before a first
start is that of the default block (log 11, DEDUCED), and the empty scan list before it is the model's
choice (log 21). -/
def Obligations.FullResetPutsEveryBlockAtItsValues : Prop :=
  ∀ (straps : Straps) (s : State), ∃ t, exec (.fullReset straps) s = .next t
    ∧ t.pending = s.pending ∧ t.wire = s.wire ∧ t.inReset = false ∧ t.sinceTick = 0
    ∧ (∀ n : Fin 64, t.ctrl.block[n] = defaultSetupByte n)
    ∧ t.ctrl = {
        state := .setup, straps := straps, block := t.ctrl.block, lockOpen := true
        setupHold := if straps.autojoin then some 100000 else none, listenTimer := none, muteTimer := none
        leavePending := false }
    ∧ t.front = {
        scanList := [], phase := none, position := none, conversion := none, waitTimer := none
        cycle := 0#16 }
    ∧ (∀ c : Channel, t.chans[c] = {
        setup := {
          enabled := true, group := Fin.ofNat 8 (c.val % 8), step := 3, touchThreshold := 40
          releaseThreshold := 30 }
        state := .off, baseline := none, count := none, delta := none, deviation := none
        touchDebounce := 0, liftDebounce := 0, drift := 0, antiTouch := 0, seed := none, rail := 0
        inRange := none, holdTimer := none })
    ∧ t.tracker = { hushed := false, settle := none, settings := {
        hysteresis := 6, touchDebounce := 3, liftDebounce := 3, driftPeriod := 32, briskWaitUs := 20000
        slackWaitUs := 200000, quietUs := 20000000, contestUs := 16000, holdUs := some 30000000
        refHost := none, hushLimit := 64 } }
    ∧ (∀ g : Group, t.table.entries[g] = .free) ∧ t.table.stray = 0#16 ∧ t.table.abandoned = 0#16
    ∧ (∀ g : Group, t.queue.groups[g] = { frame := none, followUp := none })
    ∧ t.queue = {
        recal := false, pulse := false, renewal := false, groups := t.queue.groups, inFlight := none
        withdrawnInFlight := false, intervalTimer := none }
    ∧ t.link = {
        line := .stopped, attempt := none, linkLow := false, rxErrors := 0#16, txFailures := 0#16
        consecutive := 0 }
    ∧ (∀ p : Station, t.roster[p] = { present := false, lastHeard := none, announced := none })
    ∧ t.cad = { cadence := .brisk, quiet := .stopped, stirred := false, taken := false }
    ∧ t.log = { records := [], nextNumber := 0#8, lostCount := 0#8, clock := 0#16, rptLow := false }
    ∧ t.host = {
        index := 0#7, cursorKind := 0#8, cursorIndex := 0#8, argument := 0#8, result := .done
        commandPending := none, transaction := none, recordSnapshot := none, eventSnapshot := none
        latches := {
          clock := none, rxErrors := none, txFailures := none, stray := none, abandoned := none
          cycle := none }
        sda := .released, byteSent := none }

/-- RESET_ASSERTED releases LINK, RPT and SDA and loses what was in progress; while the station is held
in reset only the full reset has an effect, and it finds nothing of what was lost (R136, R163). That no
other command acts there is the model's reading (log 9). -/
def Obligations.HeldInResetNothingActs : Prop :=
  ∀ s : State, ∃ t, exec .resetAsserted s = .next t
    ∧ t.inReset = true ∧ t.link.linkLow = false ∧ t.log.rptLow = false ∧ t.host.sda = .released
    ∧ t.front.conversion = none ∧ t.link.attempt = none ∧ t.host.transaction = none
    ∧ t.ctrl.straps = s.ctrl.straps ∧ t.pending = s.pending
    ∧ (∀ straps, exec (.fullReset straps) t = exec (.fullReset straps) s)
    ∧ (∀ c : Instr, (∀ straps, c ≠ .fullReset straps) → c ≠ .resetAsserted → exec c t = .next t)

/-! ### Sense front end (01) -/

/-- A conversion completes when its time has elapsed: with time left nothing changes (log 2). After it the
scan proceeds: to the next entry of the scan list, whose conversion of (step + 1) × 0.4 ms begins, or, after
the last entry, into the wait phase of the cadence then in force with the cycle counter up by one, whatever
the record made of the count (R2 to R5). -/
def Obligations.ScanProceedsAfterEachConversion : Prop :=
  ∀ (s : State) (count : Nat) (slot : Slot),
    s.inReset = false → count ≤ 4095 →
    (∀ rem, s.front.conversion = some (slot, rem) → 0 < rem →
      exec (.conversionCompletion count) s = .next s)
    ∧ (∀ (before : List Slot) (next : Slot) (after : List Slot),
      s.front.conversion = some (slot, 0) → slot ∉ before →
      s.front.scanList = before ++ slot :: next :: after →
      ∃ t, exec (.conversionCompletion count) s = .next t
        ∧ t.front = { s.front with
            phase := some .scan, position := some next
            conversion := some (next, (slotStep s next + 1) * 400) })
    ∧ (∀ before : List Slot,
      s.front.conversion = some (slot, 0) → slot ∉ before → s.front.scanList = before ++ [slot] →
      ∃ t, exec (.conversionCompletion count) s = .next t
        ∧ t.front = { s.front with
            phase := some .wait, position := none, conversion := none
            waitTimer := some (match t.cad.cadence with
              | .brisk => s.tracker.settings.briskWaitUs
              | .slack => s.tracker.settings.slackWaitUs)
            cycle := s.front.cycle + 1#16 })

/-- The wait timer's expiry begins a scan phase at the first entry of the scan list; an empty list ends it
at once with the cycle counter up and the next wait begun (R3, R4). Nothing else changes, and with time left
on the timer nothing at all (log 2). -/
def Obligations.WaitExpiryBeginsAScanPhase : Prop :=
  ∀ s : State, s.inReset = false →
    (∀ slot rest, s.front.waitTimer = some 0 → s.front.scanList = slot :: rest →
      exec .waitTimerExpiry s = .next { s with front := { s.front with
        phase := some .scan, position := some slot
        conversion := some (slot, (slotStep s slot + 1) * 400), waitTimer := none } })
    ∧ (s.front.waitTimer = some 0 → s.front.scanList = [] →
      exec .waitTimerExpiry s = .next { s with front := { s.front with
        phase := some .wait, position := none, conversion := none
        waitTimer := some (match s.cad.cadence with
          | .brisk => s.tracker.settings.briskWaitUs
          | .slack => s.tracker.settings.slackWaitUs)
        cycle := s.front.cycle + 1#16 } })
    ∧ (∀ rem, s.front.waitTimer = some rem → 0 < rem → exec .waitTimerExpiry s = .next s)

/-! ### Channel tracker (01, 02) -/

/-- A count of a channel in SEEDING is added to the seed sum, and the sixteenth makes the baseline and
passes the record to IDLE; while hushed the seeding pauses. Nothing else changes but the front end, and
where no record of a station in SEEDING seeds any more, it passes on to LISTEN: the listen timer at 1200 ms,
the receiver seeking with its run at 0, STATION (LISTEN) logged (R11, R23, R25, R87, R143, R144). That a
record which recovered from FAULTED holds the station in SEEDING like the others is the model's choice
between R143 and R15 (log 20). -/
def Obligations.SeedingTakesSixteenCounts : Prop :=
  ∀ (s : State) (c : Channel) (n sum k : Nat),
    s.inReset = false → n ≤ 4095 → s.front.conversion = some (.channel c, 0) →
    s.chans[c].state = .seeding → s.chans[c].seed = some (sum, k) → railAfter s.chans[c].rail n < 16 →
    ∃ t, exec (.conversionCompletion n) s = .next t
      ∧ { t with front := s.front } = leavesSeeding (s.setChan c
          (if s.tracker.hushed then
            { s.chans[c] with count := some n, rail := railAfter s.chans[c].rail n }
          else if k + 1 < 16 then
            { s.chans[c] with
              count := some n, rail := railAfter s.chans[c].rail n, seed := some (sum + n, k + 1) }
          else
            { s.chans[c] with
              count := some n, rail := railAfter s.chans[c].rail n, seed := none, state := .idle
              baseline := some ((sum + n) / 16), delta := some (((sum + n) / 16 : Nat) - (n : Int))
              touchDebounce := 0, liftDebounce := 0, antiTouch := 0, drift := 0 }))

/-- An IDLE record that a count does not arm. The drift accumulator moves toward the count's side, and at
the drift period the baseline follows by one; the fourth count in a row that exceeds the baseline by the
touch threshold moves the baseline to itself. While hushed the delta alone is worked out. Nothing outside
the record and the front end changes (R26 to R29). -/
def Obligations.IdleRecordTracksSlowChange : Prop :=
  ∀ (s : State) (c : Channel) (n b : Nat),
    s.inReset = false → n ≤ 4095 → s.front.conversion = some (.channel c, 0) →
    s.chans[c].state = .idle → s.chans[c].baseline = some b → railAfter s.chans[c].rail n < 16 →
    (s.ctrl.state = .seeding → ∃ d : Channel, s.chans[d].state = .seeding) →
    s.tracker.hushed = true ∨ (b : Int) - n < s.chans[c].setup.touchThreshold →
    ∃ t, exec (.conversionCompletion n) s = .next t
      ∧ { t with front := s.front } = s.setChan c
          (let r := { s.chans[c] with count := some n, rail := railAfter s.chans[c].rail n }
          let period : Int := s.tracker.settings.driftPeriod
          let acc : Int := if b < n then r.drift + 1 else if n < b then r.drift - 1 else r.drift
          if s.tracker.hushed then { r with delta := some ((b : Int) - n) }
          else if b + r.setup.touchThreshold ≤ n ∧ 4 ≤ r.antiTouch + 1 then
            { r with baseline := some n, drift := 0, antiTouch := 0, delta := some 0 }
          else
            let anti := if b + r.setup.touchThreshold ≤ n then r.antiTouch + 1 else 0
            if b < n ∧ period ≤ acc then
              { r with baseline := some (b + 1), drift := 0, antiTouch := anti
                       delta := some (((b + 1 : Nat) : Int) - n) }
            else if n < b ∧ acc ≤ -period then
              { r with baseline := some (b - 1), drift := 0, antiTouch := anti
                       delta := some (((b - 1 : Nat) : Int) - n) }
            else { r with drift := acc, antiTouch := anti, delta := some ((b : Int) - n) })

/-- A count at or above the touch threshold arms an IDLE record and is local activity: the station is
BRISK, its quiet timer afresh, its stirred flag set and its taken mark clear, with CADENCE and a PULSE
request where it was SLACK. With a touch debounce of 1 the record passes to CANDIDATE at that same
completion, and its group is evaluated (R26, R31, R70, R128, R129, R132). -/
def Obligations.TouchArmsAndStirs : Prop :=
  ∀ (s : State) (c : Channel) (n b : Nat),
    s.inReset = false → n ≤ 4095 → s.front.conversion = some (.channel c, 0) →
    s.chans[c].state = .idle → s.chans[c].baseline = some b → railAfter s.chans[c].rail n < 16 →
    s.tracker.hushed = false → (s.chans[c].setup.touchThreshold : Int) ≤ (b : Int) - n →
    (s.ctrl.state = .seeding → ∃ d : Channel, s.chans[d].state = .seeding) →
    let stirred : State := { s with
      cad := {
        cadence := .brisk, quiet := quietWith s s.table.entries, stirred := true, taken := false }
      log := (wakeEvents s).foldl logPut s.log
      queue := if s.cad.cadence = .slack ∧ s.ctrl.state = .online then pulseRequest false s.queue
        else s.queue }
    let r := { s.chans[c] with
      count := some n, rail := railAfter s.chans[c].rail n, delta := some ((b : Int) - n), antiTouch := 0 }
    ∃ t, exec (.conversionCompletion n) s = .next t
      ∧ (2 ≤ s.tracker.settings.touchDebounce →
          { t with front := s.front } = stirred.setChan c { r with state := .arming, touchDebounce := 1 })
      ∧ (s.tracker.settings.touchDebounce ≤ 1 →
          { t with front := s.front } = evaluate (fun g => decide (g = r.setup.group))
            (stirred.setChan c { r with state := .candidate, touchDebounce := 0, liftDebounce := 0 }))

/-- In ARMING a count below the threshold returns the record to IDLE; one at or above it counts on, and
the one that meets the touch debounce makes a CANDIDATE, which is local activity and brings the
evaluation of its group (R30, R31, R33, R70). -/
def Obligations.ArmingQualifiesATouch : Prop :=
  ∀ (s : State) (c : Channel) (n b : Nat),
    s.inReset = false → n ≤ 4095 → s.front.conversion = some (.channel c, 0) →
    s.chans[c].state = .arming → s.chans[c].baseline = some b → railAfter s.chans[c].rail n < 16 →
    (s.ctrl.state = .seeding → ∃ d : Channel, s.chans[d].state = .seeding) →
    let r := { s.chans[c] with
      count := some n, rail := railAfter s.chans[c].rail n, delta := some ((b : Int) - n) }
    ∃ t, exec (.conversionCompletion n) s = .next t
      ∧ { t with front := s.front } =
          if (b : Int) - n < r.setup.touchThreshold then
            s.setChan c { r with
              state := .idle, touchDebounce := 0, liftDebounce := 0, antiTouch := 0, holdTimer := none }
          else if r.touchDebounce + 1 < s.tracker.settings.touchDebounce then
            s.setChan c { r with touchDebounce := r.touchDebounce + 1 }
          else
            evaluate (fun g => decide (g = r.setup.group))
              (activity true (s.setChan c { r with
                state := .candidate, touchDebounce := 0, liftDebounce := 0 }))

/-- The lift of a claim-side record, in any of its four states. A count at or above the release threshold
clears the debounce, one below counts on, and the one that meets the lift debounce passes the record to
IDLE with the frames of the state it leaves, as the tables of R75, R77 and R80 give them: none for a
SUPPRESSED one, a RELEASE (LIFT) for a PRESSED one, a RELEASE (WITHDRAWN) or a follow-up for a CONTENDING
one, whose contest timer stops, and for a CANDIDATE its CLAIM withdrawn or a follow-up behind it. At the
lift of a CANDIDATE or CONTENDING one, and at every count of a CANDIDATE whose CLAIM is not in flight, the
group is evaluated (R32, R33, R50, R71, R75, R77, R80, R83). -/
def Obligations.LiftIsDebouncedAndReleases : Prop :=
  ∀ (s : State) (c : Channel) (n b : Nat),
    s.inReset = false → n ≤ 4095 → s.front.conversion = some (.channel c, 0) →
    s.chans[c].baseline = some b → railAfter s.chans[c].rail n < 16 →
    (s.ctrl.state = .seeding → ∃ d : Channel, s.chans[d].state = .seeding) →
    claimSide s.chans[c].state = true →
    let g := s.chans[c].setup.group
    let r : Chan := { s.chans[c] with
      count := some n, rail := railAfter s.chans[c].rail n, delta := some ((b : Int) - n) }
    let below : Prop := (b : Int) - n < r.setup.releaseThreshold
    let met : Prop := s.tracker.settings.liftDebounce ≤ r.liftDebounce + 1
    let judged : Group → Bool := fun d => decide (d = g ∧ r.state = .candidate
      ∧ ¬(s.queue.inFlight = some (.group g) ∧ s.queue.groups[g].frame = some (.claim c)))
    ∃ t, exec (.conversionCompletion n) s = .next t
      ∧ (¬ below → { t with front := s.front } = evaluate judged (s.setChan c { r with liftDebounce := 0 }))
      ∧ (below → ¬ met → { t with front := s.front } =
          evaluate judged (s.setChan c { r with liftDebounce := r.liftDebounce + 1 }))
      ∧ (below → met → LeavesByTable s c → { t with front := s.front } =
          evaluate (fun d => decide (d = g ∧ (r.state = .candidate ∨ r.state = .contending)))
            (afterLeave (if r.state = .pressed then .lift else .withdrawn) c { r with
              state := .idle, touchDebounce := 0, liftDebounce := 0, antiTouch := 0, holdTimer := none } s))

/-- The sixteenth rail count in a row faults a key channel from any state but OFF and FAULTED, with
CHANNEL-FAULT. One that held or sought its group asks for the frames of the state it leaves, each with
reason FAULT, as the table of R13 gives them, and the group of a CANDIDATE or CONTENDING one is evaluated;
any other asks for nothing. Nothing else changes but the front end, and where no record of a station in
SEEDING seeds any more, a recovered one counting too (log 20), it passes on to LISTEN (R11 to R13, R50, R75,
R77, R80, R143). -/
def Obligations.SixteenRailCountsFaultAChannel : Prop :=
  ∀ (s : State) (c : Channel) (n : Nat),
    s.inReset = false → n = 0 ∨ n = 4095 → s.front.conversion = some (.channel c, 0) →
    s.chans[c].state ≠ .off → s.chans[c].state ≠ .faulted → 16 ≤ s.chans[c].rail + 1 →
    let g := s.chans[c].setup.group
    let faulted := { s.chans[c] with
      count := some n, state := .faulted, rail := 0, inRange := some 0, touchDebounce := 0
      liftDebounce := 0, antiTouch := 0, seed := none, holdTimer := none, deviation := none }
    ∃ t, exec (.conversionCompletion n) s = .next t
      ∧ t.chans[c] = faulted
      ∧ (s.ctrl.state ≠ .seeding →
          t.log = logPut s.log (.channelFault s.number c) ∧ t.ctrl = s.ctrl ∧ t.link = s.link)
      ∧ (s.ctrl.state = .seeding →
          (t.ctrl.state = .listen ↔ ∀ d : Channel, d ≠ c → s.chans[d].state ≠ .seeding))
      ∧ t.tracker = s.tracker ∧ t.roster = s.roster ∧ t.cad = s.cad ∧ t.host = s.host
      ∧ (LeavesByTable s c → { t with front := s.front } = leavesSeeding
          (evaluate (fun d => decide (d = g
              ∧ (s.chans[c].state = .candidate ∨ s.chans[c].state = .contending)))
            (afterLeave .fault c faulted (s.put (.channelFault s.number c)))))

/-- A FAULTED channel takes its count and its in-range run alone: a rail count sets the run to 0, any
other adds one, and the sixteenth recovers the channel into SEEDING with CHANNEL-RECOVERED, its baseline
kept (R14, R15). -/
def Obligations.FaultedChannelRecoversInRange : Prop :=
  ∀ (s : State) (c : Channel) (n k : Nat),
    s.inReset = false → n ≤ 4095 → s.front.conversion = some (.channel c, 0) →
    s.chans[c].state = .faulted → s.chans[c].inRange = some k →
    (s.ctrl.state = .seeding → ∃ d : Channel, s.chans[d].state = .seeding) →
    let r := { s.chans[c] with count := some n }
    ∃ t, exec (.conversionCompletion n) s = .next t
      ∧ { t with front := s.front } =
          if n = 0 ∨ n = 4095 then s.setChan c { r with inRange := some 0 }
          else if k + 1 < 16 then s.setChan c { r with inRange := some (k + 1) }
          else (s.setChan c { r with
            state := .seeding, delta := none, deviation := none, touchDebounce := 0, liftDebounce := 0
            drift := 0, antiTouch := 0, seed := some (0, 0), holdTimer := none, rail := 0
            inRange := none }).put (.channelRecovered s.number c)

/-- The reference. Its record seeds like a key channel, and its sixteenth count gives its deviation in place
of a delta; in IDLE a deviation within the hush limit lets the baseline drift. A deviation over the limit
hushes the station with HUSH-ON: every ARMING or CANDIDATE record returns to IDLE, a CANDIDATE's queued
CLAIM is withdrawn, and one in flight takes a follow-up RELEASE (WITHDRAWN). While hushed, a deviation of at
most half the limit counts toward eight settled counts, which end hush with HUSH-OFF, and a greater one
starts the run again. The sixteenth rail count in a row faults it with CHANNEL-FAULT, and a hush in force
then ends with HUSH-OFF; FAULTED, it recovers as a key channel does. Nothing else changes but the front end,
and a station in SEEDING passes on to LISTEN once nothing seeds, a recovered record counting too (log 20;
R11, R17, R27, R34 to R38, R143). -/
def Obligations.ReferenceHushesAndSettles : Prop :=
  ∀ (s : State) (c : Channel) (n : Nat),
    s.inReset = false → n ≤ 4095 → s.front.conversion = some (.reference, 0) →
    s.tracker.settings.refHost = some c →
    let limit := s.tracker.settings.hushLimit
    let r := { s.chans[c] with count := some n, rail := railAfter s.chans[c].rail n }
    (∀ sum k, s.chans[c].state = .seeding → s.chans[c].seed = some (sum, k) →
        railAfter s.chans[c].rail n < 16 →
        ∃ t, exec (.conversionCompletion n) s = .next t
          ∧ { t with front := s.front } = leavesSeeding (s.setChan c
              (if k + 1 < 16 then { r with seed := some (sum + n, k + 1) }
              else { r with
                seed := none, state := .idle, baseline := some ((sum + n) / 16), delta := none
                deviation := some ((n - (sum + n) / 16) + ((sum + n) / 16 - n)), touchDebounce := 0
                liftDebounce := 0, antiTouch := 0, drift := 0 })))
    ∧ (∀ b, s.chans[c].state = .idle → s.chans[c].baseline = some b → railAfter s.chans[c].rail n < 16 →
        (s.ctrl.state = .seeding → ∃ d : Channel, s.chans[d].state = .seeding) →
        let deviation := (n - b) + (b - n)
        let period : Int := s.tracker.settings.driftPeriod
        let acc : Int := if b < n then r.drift + 1 else if n < b then r.drift - 1 else r.drift
        ∃ t, exec (.conversionCompletion n) s = .next t
          ∧ (s.tracker.hushed = false → deviation ≤ limit → { t with front := s.front } = s.setChan c
              (if b < n ∧ period ≤ acc then
                { r with baseline := some (b + 1), drift := 0, deviation := some (deviation - 1) }
              else if n < b ∧ acc ≤ -period then
                { r with baseline := some (b - 1), drift := 0, deviation := some (deviation - 1) }
              else { r with drift := acc, deviation := some deviation }))
          ∧ (s.tracker.hushed = false → limit < deviation →
              t.tracker = { s.tracker with hushed := true, settle := some 0 }
                ∧ t.log = logPut s.log (.hushOn s.number deviation)
                ∧ t.chans[c] = { r with deviation := some deviation }
                ∧ (∀ d : Channel, d ≠ c → t.chans[d] =
                    if s.chans[d].state = .arming ∨ s.chans[d].state = .candidate then
                      { s.chans[d] with
                        state := .idle, touchDebounce := 0, liftDebounce := 0, antiTouch := 0
                        holdTimer := none }
                    else s.chans[d])
                ∧ (∀ g : Group, t.table.entries[g] = s.table.entries[g])
                ∧ ((∀ d : Channel, s.chans[d].state ≠ .candidate) → t.queue = s.queue)
                ∧ (∀ g : Group, s.ctrl.state = .online → s.queue.groups[g].followUp = none →
                    (s.queue.inFlight = some (.group g) → s.queue.withdrawnInFlight = false) →
                    t.queue.groups[g] = match s.queue.groups[g].frame with
                      | some (.claim d) =>
                        if s.chans[d].state = .candidate ∧ s.chans[d].setup.group = g then
                          slotAfterLeave .candidate (decide (s.queue.inFlight = some (.group g))) d
                            .withdrawn s.queue.groups[g]
                        else s.queue.groups[g]
                      | _ => s.queue.groups[g])
                ∧ t.queue.recal = s.queue.recal ∧ t.queue.pulse = s.queue.pulse
                ∧ t.queue.inFlight = s.queue.inFlight
                ∧ t.ctrl = s.ctrl ∧ t.link = s.link ∧ t.roster = s.roster ∧ t.cad = s.cad
                ∧ t.host = s.host
                ∧ { t with front := s.front } = { s with
                    chans := each (fun d record =>
                      if d = c then { r with deviation := some deviation }
                      else if record.state = .arming ∨ record.state = .candidate then
                        { record with
                          state := .idle, touchDebounce := 0, liftDebounce := 0, antiTouch := 0
                          holdTimer := none }
                      else record) s.chans
                    tracker := { s.tracker with hushed := true, settle := some 0 }
                    queue := { s.queue with groups := each (slotAfterHush s) s.queue.groups }
                    log := logPut s.log (.hushOn s.number deviation) })
          ∧ (s.tracker.hushed = true →
              let seen := s.setChan c { r with deviation := some deviation }
              { t with front := s.front } =
                if limit / 2 < deviation then
                  { seen with tracker := { s.tracker with settle := some 0 } }
                else if (s.tracker.settle.getD 0) + 1 < 8 then
                  { seen with tracker := { s.tracker with settle := some ((s.tracker.settle.getD 0) + 1) } }
                else
                  ({ seen with tracker := { s.tracker with hushed := false, settle := none } }).put
                    (.hushOff s.number (some deviation))))
    ∧ (n = 0 ∨ n = 4095 → s.chans[c].state ≠ .off → s.chans[c].state ≠ .faulted →
        16 ≤ s.chans[c].rail + 1 →
        ∃ t, exec (.conversionCompletion n) s = .next t
          ∧ { t with front := s.front } = leavesSeeding { s with
              chans := s.chans.set c { s.chans[c] with
                count := some n, state := .faulted, rail := 0, inRange := some 0, touchDebounce := 0
                liftDebounce := 0, antiTouch := 0, seed := none, holdTimer := none, deviation := none }
              tracker := if s.tracker.hushed then { s.tracker with hushed := false, settle := none }
                else s.tracker
              log := ([Event.channelFault s.number c]
                ++ (if s.tracker.hushed then [Event.hushOff s.number none] else [])).foldl logPut s.log })
    ∧ (∀ k, s.chans[c].state = .faulted → s.chans[c].inRange = some k →
        (s.ctrl.state = .seeding → ∃ d : Channel, s.chans[d].state = .seeding) →
        let counted := { s.chans[c] with count := some n }
        ∃ t, exec (.conversionCompletion n) s = .next t
          ∧ { t with front := s.front } =
              if n = 0 ∨ n = 4095 then s.setChan c { counted with inRange := some 0 }
              else if k + 1 < 16 then s.setChan c { counted with inRange := some (k + 1) }
              else (s.setChan c { counted with
                state := .seeding, delta := none, deviation := none, touchDebounce := 0, liftDebounce := 0
                drift := 0, antiTouch := 0, seed := some (0, 0), holdTimer := none, rail := 0
                inRange := none }).put (.channelRecovered s.number c))

/-! ### Frames of peers (03, 05, 07) -/

/-- A peer's CLAIM. It takes a FREE or GUARD group and displaces a weaker holder, with the abandon timer
from this frame; against an equal or stronger contest, an OWNED group or its own holding it is refused, and
counted stray in the last case. A displaced CONTENDING channel of this station passes to SUPPRESSED and its
frames are withdrawn, or marked withdrawn in flight. Where the CLAIM is taken, this station's candidates of
the group are evaluated against the entry as it then stands, and where it is refused, no group is. The peer
is PRESENT, its last-heard timer afresh with the threshold of the cadence it announced, and the station
BRISK with its quiet timer held, a PULSE requested where it was SLACK; nothing of another group changes (R45
to R48, R65, R71, R72, R111, R113, R120, R122, R128 to R130). -/
def Obligations.PeerClaimTakesDisplacesOrIsRefused : Prop :=
  ∀ (s : State) (p : Station) (g : Group) (c : Channel) (strength : Nat),
    Receives (.claim strength p g c) s → p ≠ s.number →
    let h : Holder := { station := p, channel := c }
    let displaced := afterDisplacement g h strength s
    ∃ t, exec (.frameHeard (.claim strength p g c)) s = .next t
      ∧ t.table.entries[g] = (match s.table.entries[g] with
        | .contested old held abandon contest =>
          if old ≠ h ∧ held < strength then .contested h strength 250000 none
          else .contested old held abandon contest
        | .owned old held since => .owned old held since
        | _ => .contested h strength 250000 none)
      ∧ (∀ d : Group, d ≠ g → t.table.entries[d] = s.table.entries[d])
      ∧ t.table.stray = (if entryHolder s.table.entries[g] = some h then satInc s.table.stray
          else s.table.stray)
      ∧ t.table.abandoned = s.table.abandoned
      ∧ (∀ (own : Channel) (held abandon : Nat) (contest : Option Nat),
          s.table.entries[g] = .contested { station := s.number, channel := own } held abandon contest →
          held < strength → s.chans[own].state = .contending →
          t.chans[own] = { s.chans[own] with state := .suppressed, holdTimer := none })
      ∧ (∀ (own : Channel) (held abandon : Nat) (contest : Option Nat),
          s.table.entries[g] = .contested { station := s.number, channel := own } held abandon contest →
          held < strength → s.queue.inFlight ≠ some (.group g) →
          (s.queue.groups[g].frame.all fun f => decide (frameChannel f = own)) = true →
          (t.queue.groups[g].frame.all isClaim) = true)
      ∧ (∀ d : Channel, s.chans[d].setup.group ≠ g →
          entryHolder s.table.entries[g] ≠ some { station := s.number, channel := d } →
          t.chans[d] = s.chans[d])
      ∧ (∀ d : Group, d ≠ g → t.queue.groups[d] = s.queue.groups[d])
      ∧ t.queue.recal = s.queue.recal ∧ t.queue.intervalTimer = s.queue.intervalTimer
      ∧ t.roster = s.roster.set p {
          present := true
          lastHeard := some (match s.roster[p].announced with
            | some a => if a.cadence = .slack then 1500000 else 150000
            | none => 150000)
          announced := s.roster[p].announced }
      ∧ t.log = (joinedEvents s p ++ wakeEvents s).foldl logPut s.log
      ∧ t.cad = {
          cadence := .brisk, quiet := .held, stirred := s.cad.stirred, taken := s.cad.taken }
      ∧ t.link = { s.link with line := .seeking 7 } ∧ t.tracker = s.tracker ∧ SameOutsidePanel s t
      ∧ t = evaluate (fun d => claimIsTaken s.table.entries[g] h strength && decide (d = g)) { s with
          chans := displaced.chans, queue := queueAtWake s displaced.queue, table := t.table
          roster := t.roster, log := t.log, cad := t.cad, link := t.link }

/-- A peer's CONFIRM makes the CONTESTED group of its holder OWNED, its strength kept and owned-since from
the clock, with KEY-DOWN (CONFIRMED); in any other standing it is stray. It is an activity event: the
station is BRISK, and a PULSE is requested where it was SLACK. A peer's RELEASE passes the group of its
holder to GUARD for 24 ms, with KEY-UP of its reason (WITHDRAWN as LIFT) where it was OWNED; else it is
stray. Where the entry changed, this station's candidates of the group are evaluated against it as it then
stands, and where it did not, no group is. The peer is PRESENT, its last-heard timer afresh (R52, R54, R65,
R66, R71, R72, R113, R120, R122, R128 to R130). -/
def Obligations.PeerConfirmAndReleaseSettleAGroup : Prop :=
  ∀ (s : State) (p : Station) (g : Group) (c : Channel),
    p ≠ s.number →
    let h : Holder := { station := p, channel := c }
    (Receives (.confirm p g c) s →
      ∃ t, exec (.frameHeard (.confirm p g c)) s = .next t
        ∧ (match s.table.entries[g] with
          | .contested old held _ _ =>
            if old = h then
              t.table = { s.table with entries := s.table.entries.set g (.owned h held s.log.clock) }
                ∧ t.log = (joinedEvents s p ++ [Event.keyDown h g held .confirmed] ++ wakeEvents s).foldl
                  logPut s.log
            else
              t.table = { s.table with stray := satInc s.table.stray }
                ∧ t.log = (joinedEvents s p ++ wakeEvents s).foldl logPut s.log
          | _ =>
            t.table = { s.table with stray := satInc s.table.stray }
              ∧ t.log = (joinedEvents s p ++ wakeEvents s).foldl logPut s.log)
        ∧ (∀ d : Group, d ≠ g → t.queue.groups[d] = s.queue.groups[d])
        ∧ (∀ d : Channel, s.chans[d].setup.group ≠ g → t.chans[d] = s.chans[d])
        ∧ t.roster = s.roster.set p (heardAgain s.roster[p])
        ∧ t.cad = {
            cadence := .brisk, quiet := quietWith s t.table.entries, stirred := s.cad.stirred
            taken := s.cad.taken }
        ∧ t.link = { s.link with line := .seeking 7 } ∧ t.tracker = s.tracker ∧ SameOutsidePanel s t
        ∧ t = evaluate
            (fun d => decide (d = g) && isContestOf h s.table.entries[g])
            { s with
              queue := queueAtWake s s.queue, table := t.table, roster := t.roster, log := t.log
              cad := t.cad, link := t.link })
    ∧ (∀ reason, Receives (.release p g c reason) s →
      ∃ t, exec (.frameHeard (.release p g c reason)) s = .next t
        ∧ (if entryHolder s.table.entries[g] = some h then
            t.table = { s.table with entries := s.table.entries.set g (.guarded 24000) }
              ∧ t.log = (joinedEvents s p ++ (match s.table.entries[g] with
                | .owned _ _ _ => [Event.keyUp h g (match reason with
                  | .lift => .lift
                  | .withdrawn => .lift
                  | .stuck => .stuck
                  | .reseed => .reseed
                  | .fault => .fault)]
                | _ => [])).foldl logPut s.log
              ∧ t.cad.quiet = (if s.cad.cadence = .brisk then quietWith s t.table.entries else s.cad.quiet)
          else
            t.table = { s.table with stray := satInc s.table.stray }
              ∧ t.log = (joinedEvents s p).foldl logPut s.log ∧ t.cad.quiet = s.cad.quiet)
        ∧ (∀ d : Group, d ≠ g → t.queue.groups[d] = s.queue.groups[d])
        ∧ (∀ d : Channel, s.chans[d].setup.group ≠ g → t.chans[d] = s.chans[d])
        ∧ t.cad.cadence = s.cad.cadence ∧ t.cad.stirred = s.cad.stirred ∧ t.cad.taken = s.cad.taken
        ∧ t.roster = s.roster.set p (heardAgain s.roster[p])
        ∧ t.link = { s.link with line := .seeking 7 } ∧ t.tracker = s.tracker ∧ SameOutsidePanel s t
        ∧ t = evaluate (fun d => decide (d = g ∧ entryHolder s.table.entries[g] = some h)) { s with
            table := t.table, roster := t.roster, log := t.log, cad := t.cad, link := t.link })

/-- A RECAL heard, a peer's or this station's own as its success, frees every group, with KEY-UP (RECAL) for
each OWNED one, drops the RECAL slot and every group slot, and re-seeds every key channel that is not OFF or
FAULTED and the reference in IDLE or SEEDING, baselines kept; a hush in force ends with HUSH-OFF. It
restarts the quiet timer with the full quiet period in BRISK, leaves the cadence SLACK and the timer stopped
in SLACK, and changes neither the stirred flag nor the taken mark. A peer is then PRESENT, its last-heard
timer afresh, and no other roster entry changes; an own RECAL ends its attempt, with the failure run at 0
(R39, R56, R97, R112, R115, R133). Every candidate is a key channel's, as EveryStepKeepsTheChannelsCoherent
says. -/
def Obligations.RecalHeardEmptiesAndReseeds : Prop :=
  ∀ (s : State), (∀ c : Channel, s.chans[c].state = .candidate → s.isKey c = true) →
    let chanAfter : Channel → Chan := fun c =>
      if (s.isKey c = true ∧ s.chans[c].state ≠ .off ∧ s.chans[c].state ≠ .faulted)
          ∨ (s.tracker.settings.refHost = some c
            ∧ (s.chans[c].state = .idle ∨ s.chans[c].state = .seeding)) then
        { s.chans[c] with
          state := .seeding, delta := none, deviation := none, touchDebounce := 0, liftDebounce := 0
          drift := 0, antiTouch := 0, seed := some (0, 0), holdTimer := none }
      else s.chans[c]
    let records : List Event := keyUps (fun _ => true) .recal s.table.entries
      ++ (if s.tracker.hushed then [Event.hushOff s.number none] else [])
    (∀ p : Station, Receives (.recal p) s → p ≠ s.number →
      ∃ t, exec (.frameHeard (.recal p)) s = .next t
        ∧ t.table = { s.table with entries := Vector.replicate 8 .free }
        ∧ t.queue = { s.queue with recal := false, groups := Vector.replicate 8 emptySlot }
        ∧ (∀ c : Channel, t.chans[c] = chanAfter c)
        ∧ t.tracker = (if s.tracker.hushed then { s.tracker with hushed := false, settle := none }
            else s.tracker)
        ∧ t.log = (joinedEvents s p ++ records).foldl logPut s.log
        ∧ t.cad = (if s.cad.cadence = .brisk then
            { s.cad with quiet := .running s.tracker.settings.quietUs } else s.cad)
        ∧ t.roster = s.roster.set p (heardAgain s.roster[p])
        ∧ t.link = { s.link with line := .seeking 7 } ∧ SameOutsidePanel s t)
    ∧ (∀ a : Attempt, Sends a s → a.slot = .recal → a.frame = .recal s.number →
      ∃ t, exec (.frameHeard a.frame) s = .next t
        ∧ t.table = { s.table with entries := Vector.replicate 8 .free }
        ∧ t.queue = { s.queue with
            recal := false, groups := Vector.replicate 8 emptySlot, inFlight := none
            withdrawnInFlight := false }
        ∧ (∀ c : Channel, t.chans[c] = chanAfter c)
        ∧ t.tracker = (if s.tracker.hushed then { s.tracker with hushed := false, settle := none }
            else s.tracker)
        ∧ t.log = records.foldl logPut s.log
        ∧ t.cad = (if s.cad.cadence = .brisk then
            { s.cad with quiet := .running s.tracker.settings.quietUs } else s.cad)
        ∧ t.roster = s.roster
        ∧ t.link = { s.link with line := .seeking 7, attempt := none, linkLow := false, consecutive := 0 }
        ∧ SameOutsidePanel s t)

/-- A peer's PULSE that is not leaving repairs the claim table, group by group, with the first pair that
names each group (R57 to R61), and its records come in ascending group order after PEER-JOINED and before
CADENCE (R155). A channel of this station that loses its group to it passes to SUPPRESSED from CONTENDING or
PRESSED, and every frame of the group is withdrawn or marked withdrawn in flight (R62, R111). The groups
whose entries changed in state, holder or strength, and no others, are evaluated as they then stand (R71,
R72). With its stirred flag set it turns the station BRISK with the quiet timer afresh or held, and a PULSE
is requested where it was SLACK; unstirred, it leaves the cadence, and in BRISK the quiet timer takes the
report of a change of the table (R113, R128 to R130). -/
def Obligations.PulseRepairsTheClaimTable : Prop :=
  ∀ (s : State) (p : Station) (fields : PulseFields),
    Receives (.pulse p fields) s → p ≠ s.number → fields.leaving = false →
    ∃ t, exec (.frameHeard (.pulse p fields)) s = .next t
      ∧ (∀ g : Group, fields.holdings.find? (fun pair => decide (pair.1 = g)) = none →
          t.table.entries[g] = (match s.table.entries[g] with
            | .owned h st since => if h.station = p then .free else .owned h st since
            | e => e))
      ∧ (∀ (g : Group) (c : Channel),
          fields.holdings.find? (fun pair => decide (pair.1 = g)) = some (g, c) →
          t.table.entries[g] = (match s.table.entries[g] with
            | .contested h st abandon contest =>
              if h = { station := p, channel := c } then .owned h st s.log.clock
              else if p ≤ h.station then .owned { station := p, channel := c } 0 s.log.clock
              else .contested h st abandon contest
            | .owned h st since =>
              if h = { station := p, channel := c } then .owned h st since
              else if p ≤ h.station then .owned { station := p, channel := c } 0 s.log.clock
              else .owned h st since
            | _ => .owned { station := p, channel := c } 0 s.log.clock))
      ∧ (∀ (g : Group) (c own : Channel),
          fields.holdings.find? (fun pair => decide (pair.1 = g)) = some (g, c) → p < s.number →
          entryHolder s.table.entries[g] = some { station := s.number, channel := own } →
          s.chans[own].state = .contending ∨ s.chans[own].state = .pressed →
          t.chans[own] = { s.chans[own] with state := .suppressed, holdTimer := none }
            ∧ (s.queue.inFlight ≠ some (.group g) → t.queue.groups[g].frame = none
              ∧ t.queue.groups[g].followUp = none))
      ∧ t.log = (joinedEvents s p
          ++ (List.finRange 8).flatMap (fun g =>
            resyncEvents p (listed fields.holdings g) g s.table.entries[g])
          ++ (if fields.stirred then wakeEvents s else [])).foldl logPut s.log
      ∧ t.table.stray = s.table.stray ∧ t.table.abandoned = s.table.abandoned
      ∧ t.link = { s.link with line := .seeking 7 } ∧ t.tracker = s.tracker ∧ SameOutsidePanel s t
      ∧ t.cad = cadenceAfter fields.stirred s t.table.entries
      ∧ (let lost := afterListing p fields.holdings s
        t = evaluate (fun g => decide (standing t.table.entries[g] ≠ standing s.table.entries[g])) { s with
          chans := lost.chans
          queue := if fields.stirred then queueAtWake s lost.queue else lost.queue
          table := t.table, roster := t.roster, log := t.log, cad := t.cad, link := t.link })

/-- A peer's PULSE and the roster. One that is not leaving makes the peer PRESENT with the fields it carries
and its last-heard timer at three intervals of the cadence it announces; one that is leaving makes a PRESENT
peer ABSENT with PEER-LEFT and frees its groups, with KEY-UP (LEFT) for each OWNED one, and leaves an ABSENT
peer ABSENT. No other entry changes. At a leaving PULSE the groups freed, and no others, are evaluated as
they then stand; a stirred one turns the station BRISK, with a PULSE requested where it was SLACK, and an
unstirred one leaves the cadence, the quiet timer taking the report of a change of the table (R63, R71, R72,
R113, R120 to R124, R128 to R130). -/
def Obligations.PeerPulseKeepsTheRoster : Prop :=
  ∀ (s : State) (p : Station) (fields : PulseFields),
    Receives (.pulse p fields) s → p ≠ s.number →
    ∃ t, exec (.frameHeard (.pulse p fields)) s = .next t
      ∧ (∀ q : Station, q ≠ p → t.roster[q] = s.roster[q])
      ∧ (fields.leaving = false → t.roster[p] = {
          present := true
          lastHeard := some (match fields.cadence with | .brisk => 150000 | .slack => 1500000)
          announced := some {
            cadence := fields.cadence, hushed := fields.hushed, stirred := fields.stirred
            holdings := fields.holdings } })
      ∧ (fields.leaving = true → s.roster[p].present = false →
          t.roster = s.roster ∧ t.table = s.table
            ∧ t.log = (if fields.stirred then wakeEvents s else []).foldl logPut s.log)
      ∧ (fields.leaving = true → s.roster[p].present = true →
          t.roster[p] = absentEntry
            ∧ (∀ g : Group, t.table.entries[g] =
                if (entryHolder s.table.entries[g]).any (fun h => decide (h.station = p)) then .free
                else s.table.entries[g])
            ∧ t.log = ([Event.peerLeft p]
                ++ keyUps (fun h => decide (h.station = p)) .left s.table.entries
                ++ (if fields.stirred then wakeEvents s else [])).foldl logPut s.log)
      ∧ t.cad = cadenceAfter fields.stirred s t.table.entries
      ∧ (fields.leaving = true →
          t = evaluate (fun g => decide (standing t.table.entries[g] ≠ standing s.table.entries[g])) { s with
            queue := if fields.stirred then queueAtWake s s.queue else s.queue
            table := { s.table with entries := t.table.entries }, roster := t.roster, log := t.log
            cad := t.cad, link := { s.link with line := .seeking 7 } })

/-- An intact frame that bears this station's own number and is not its own success halts the station,
which takes nothing from it: no record of it, no entry, no count (R103, R149, R150). -/
def Obligations.TwinFrameHaltsTheStation : Prop :=
  ∀ (s : State) (f : Frame), Receives f s → senderOf f = s.number →
    ∃ t, exec (.frameHeard f) s = .next t ∧ StoppedFrom .halted s t ∧ t.host = s.host
      ∧ t.cad.stirred = s.cad.stirred ∧ t.cad.taken = s.cad.taken

/-! ### This station's own frames heard (03, 04, 05, 06) -/

/-- The success of an own CLAIM. Taken for a FREE or GUARD group, or for a CONTESTED one of another holder
and a smaller strength, it makes the channel the holder: a CANDIDATE passes to CONTENDING with the contest
timer at the contest window, a channel that has left CANDIDATE keeps its state and has no contest timer, and
a displaced CONTENDING channel of this station passes to SUPPRESSED with its follow-up withdrawn. Refused,
it passes a CANDIDATE to SUPPRESSED and leaves any other state, counted stray where the channel held the
group already. Either way the attempt is over and no slot in flight; the follow-up of the claimant, and of a
holder not displaced, is promoted; and where the slot is left empty, the CONFIRM of a CONTENDING holder of
this station whose contest timer has stopped is requested again. The group's other candidates are evaluated
against the entry as it then stands. It is an activity event: the station is BRISK with the quiet timer
afresh or held, and a PULSE is requested where it was SLACK (R46 to R49, R65, R71 to R77, R82, R97, R115,
R117, R128 to R130). -/
def Obligations.OwnClaimMakesItsChannelContend : Prop :=
  ∀ (s : State) (a : Attempt) (g : Group) (c : Channel) (strength : Nat),
    Sends a s → s.ctrl.state = .online → a.slot = .group g → a.frame = .claim strength s.number g c →
    let h : Holder := { station := s.number, channel := c }
    let takes := claimIsTaken s.table.entries[g] h strength
    let displaced := afterDisplacement g h strength s
    let chans : Vector Chan 16 := if s.chans[c].state ≠ .candidate then displaced.chans
      else if takes then displaced.chans.set c { s.chans[c] with state := .contending }
      else displaced.chans.set c { s.chans[c] with state := .suppressed, holdTimer := none }
    ∃ t, exec (.frameHeard a.frame) s = .next t
      ∧ (takes = true → s.chans[c].state = .candidate →
          t.table = { s.table with
              entries := s.table.entries.set g
                (.contested h strength 250000 (some s.tracker.settings.contestUs)) }
            ∧ t.chans[c] = { s.chans[c] with state := .contending })
      ∧ (takes = true → s.chans[c].state ≠ .candidate →
          t.table = { s.table with entries := s.table.entries.set g (.contested h strength 250000 none) }
            ∧ t.chans[c] = s.chans[c])
      ∧ (takes = false →
          t.table = (if entryHolder s.table.entries[g] = some h then
              { s.table with stray := satInc s.table.stray } else s.table)
            ∧ t.chans[c] = (if s.chans[c].state = .candidate then
              { s.chans[c] with state := .suppressed, holdTimer := none } else s.chans[c]))
      ∧ (∀ (own : Channel) (held abandon : Nat) (contest : Option Nat), takes = true →
          s.table.entries[g] = .contested { station := s.number, channel := own } held abandon contest →
          s.chans[own].state = .contending →
          t.chans[own] = { s.chans[own] with state := .suppressed, holdTimer := none })
      ∧ (∀ (d : Channel) (reason : Reason),
          s.queue.groups[g] = { frame := some (.claim c), followUp := some (d, reason) } →
          s.queue.withdrawnInFlight = false →
          (takes = true → d ≠ c → entryHolder s.table.entries[g] = some { station := s.number, channel := d } →
            s.chans[c].state ≠ .contending →
            (t.queue.groups[g].frame.all isClaim) = true ∧ t.queue.groups[g].followUp = none)
          ∧ (takes = false ∨ d = c →
            t.queue.groups[g] = { frame := some (.release d reason), followUp := none }))
      ∧ (∀ (own : Channel) (held abandon : Nat),
          s.queue.groups[g] = { frame := some (.claim c), followUp := none } → takes = false →
          s.table.entries[g] = .contested { station := s.number, channel := own } held abandon none →
          own ≠ c → s.chans[own].state = .contending →
          t.queue.groups[g] = { frame := some (.confirm own), followUp := none })
      ∧ (s.queue.groups[g] = { frame := some (.claim c), followUp := none } →
          t.queue.groups[g].followUp = none
            ∧ (t.queue.groups[g].frame.all fun f => isClaim f || isConfirm f) = true)
      ∧ t.queue.inFlight = none ∧ t.queue.withdrawnInFlight = false
      ∧ (∀ d : Group, d ≠ g → t.queue.groups[d] = s.queue.groups[d])
      ∧ t.link = { s.link with line := .seeking 7, attempt := none, linkLow := false, consecutive := 0 }
      ∧ t.log = (wakeEvents s).foldl logPut s.log
      ∧ t.roster = s.roster ∧ t.tracker = s.tracker ∧ SameOutsidePanel s t
      ∧ t.cad = cadenceAfter true s t.table.entries
      ∧ t = evaluate (fun d => decide (d = g)) { s with
          chans := chans
          queue := { setSlot displaced.queue g (slotConfirmedAgain { s with chans := chans, table := t.table } g
              (slotAfterSuccess none displaced.queue.withdrawnInFlight displaced.queue.groups[g])) with
            inFlight := none, withdrawnInFlight := false
            pulse := s.queue.pulse || decide (s.cad.cadence = .slack) }
          table := t.table, log := t.log, cad := t.cad, link := t.link }

/-- The success of an own CONFIRM of a CONTENDING holder: the group OWNED, the channel PRESSED with its hold
timer at the hold limit (absent when off), KEY-DOWN (CONFIRMED), and the slot empty, or holding the RELEASE
that stood behind the CONFIRM, a WITHDRAWN one as LIFT; it is an activity event, the station BRISK with the
quiet timer afresh or held and a PULSE requested where it was SLACK (R52, R79, R82, R97, R115, R128 to
R130). The success of an own RELEASE empties its slot; where the channel held the group it passes to GUARD
for 24 ms, with KEY-UP of the reason (WITHDRAWN as LIFT) where it was OWNED and no record changed, and else
the frame is stray. The success of an own CONFIRM whose channel is not the CONTESTED holder is stray and an
activity event all the same. A slot marked withdrawn in flight is emptied at either success, with any
follow-up. At either the group's candidates are evaluated against the entry as it then stands (R54, R65,
R71, R72, R97, R115). -/
def Obligations.OwnConfirmPressesItsChannel : Prop :=
  ∀ (s : State) (a : Attempt) (g : Group) (c : Channel),
    Sends a s → a.slot = .group g →
    let h : Holder := { station := s.number, channel := c }
    (∀ (held abandon : Nat) (contest : Option Nat), s.queue.withdrawnInFlight = false →
      a.frame = .confirm s.number g c →
      s.table.entries[g] = .contested { station := s.number, channel := c } held abandon contest →
      ∃ t, exec (.frameHeard a.frame) s = .next t
        ∧ t.table = { s.table with entries := s.table.entries.set g (.owned h held s.log.clock) }
        ∧ (s.chans[c].state = .contending → t.chans[c] = { s.chans[c] with
            state := .pressed, holdTimer := s.tracker.settings.holdUs })
        ∧ (s.chans[c].state = .idle → t.chans[c] = s.chans[c])
        ∧ t.queue.groups[g] = (match s.queue.groups[g].followUp with
          | none => { frame := none, followUp := none }
          | some (d, reason) => {
              frame := some (.release d (if d = c ∧ reason = .withdrawn then .lift else reason))
              followUp := none })
        ∧ (∀ d : Group, d ≠ g → t.queue.groups[d] = s.queue.groups[d])
        ∧ t.queue.inFlight = none
        ∧ t.log = ([Event.keyDown h g held .confirmed] ++ wakeEvents s).foldl logPut s.log
        ∧ t.link = { s.link with line := .seeking 7, attempt := none, linkLow := false, consecutive := 0 }
        ∧ t.roster = s.roster ∧ t.tracker = s.tracker ∧ SameOutsidePanel s t
        ∧ t.cad = cadenceAfter true s t.table.entries
        ∧ t = evaluate (fun d => decide (d = g)) { s with
            chans := if s.chans[c].state = .contending then s.chans.set c { s.chans[c] with
                state := .pressed, holdTimer := s.tracker.settings.holdUs } else s.chans
            queue := { setSlot s.queue g (slotAfterSuccess (some c) false s.queue.groups[g]) with
              inFlight := none, withdrawnInFlight := false
              pulse := s.queue.pulse || decide (s.cad.cadence = .slack ∧ s.ctrl.state = .online) }
            table := t.table, log := t.log, cad := t.cad, link := t.link })
    ∧ (∀ reason : Reason, s.queue.withdrawnInFlight = false →
      a.frame = .release s.number g c reason → s.queue.groups[g].followUp = none →
      ∃ t, exec (.frameHeard a.frame) s = .next t
        ∧ (entryHolder s.table.entries[g] = some h →
            t.table = { s.table with entries := s.table.entries.set g (.guarded 24000) }
              ∧ t.chans = s.chans ∧ t.queue.groups[g] = { frame := none, followUp := none }
              ∧ t.log = (match s.table.entries[g] with
                | .owned _ _ _ => logPut s.log (.keyUp h g (match reason with
                  | .lift => .lift
                  | .withdrawn => .lift
                  | .stuck => .stuck
                  | .reseed => .reseed
                  | .fault => .fault))
                | _ => s.log)
              ∧ t.cad = (if s.cad.cadence = .brisk then
                { s.cad with quiet := quietWith s t.table.entries } else s.cad))
        ∧ (entryHolder s.table.entries[g] ≠ some h →
            t.table = { s.table with stray := satInc s.table.stray } ∧ t.log = s.log ∧ t.cad = s.cad
              ∧ t.queue.groups[g].followUp = none
              ∧ (t.queue.groups[g].frame.all fun f => isClaim f || isConfirm f) = true)
        ∧ (∀ d : Channel, s.chans[d].setup.group ≠ g → t.chans[d] = s.chans[d])
        ∧ (∀ d : Group, d ≠ g → t.queue.groups[d] = s.queue.groups[d])
        ∧ t.queue.inFlight = none
        ∧ t.link = { s.link with line := .seeking 7, attempt := none, linkLow := false, consecutive := 0 }
        ∧ t.roster = s.roster ∧ t.tracker = s.tracker ∧ SameOutsidePanel s t
        ∧ t = evaluate (fun d => decide (d = g)) { s with
            queue := { setSlot s.queue g (if s.ctrl.state = .online then
                slotConfirmedAgain { s with table := t.table } g { frame := none, followUp := none }
              else { frame := none, followUp := none }) with
              inFlight := none, withdrawnInFlight := false }
            table := t.table, log := t.log, cad := t.cad, link := t.link })
    ∧ (a.frame = .confirm s.number g c →
      let won := isContestOf h s.table.entries[g]
      let chans := if won ∧ s.chans[c].state = .contending then s.chans.set c { s.chans[c] with
          state := .pressed, holdTimer := s.tracker.settings.holdUs } else s.chans
      let slot := slotAfterSuccess (some c) s.queue.withdrawnInFlight s.queue.groups[g]
      ∃ t, exec (.frameHeard a.frame) s = .next t
        ∧ (won = false → t.table = { s.table with stray := satInc s.table.stray }
          ∧ t.log = (wakeEvents s).foldl logPut s.log)
        ∧ (∀ (held abandon : Nat) (contest : Option Nat),
          s.table.entries[g] = .contested h held abandon contest →
          t.table = { s.table with entries := s.table.entries.set g (.owned h held s.log.clock) }
            ∧ t.log = ([Event.keyDown h g held .confirmed] ++ wakeEvents s).foldl logPut s.log)
        ∧ t.cad = cadenceAfter true s t.table.entries
        ∧ t = evaluate (fun d => decide (d = g)) { s with
            chans := chans
            queue := { setSlot s.queue g (if s.ctrl.state = .online then
                slotConfirmedAgain { s with chans := chans, table := t.table } g slot else slot) with
              inFlight := none, withdrawnInFlight := false
              pulse := s.queue.pulse || decide (s.cad.cadence = .slack ∧ s.ctrl.state = .online) }
            table := t.table, log := t.log, cad := t.cad
            link := { s.link with
              line := .seeking 7, attempt := none, linkLow := false, consecutive := 0 } })
    ∧ (∀ reason : Reason, a.frame = .release s.number g c reason →
      let slot := slotAfterSuccess none s.queue.withdrawnInFlight s.queue.groups[g]
      ∃ t, exec (.frameHeard a.frame) s = .next t
        ∧ (entryHolder s.table.entries[g] = some h →
          t.table = { s.table with entries := s.table.entries.set g (.guarded 24000) }
            ∧ t.log = (match s.table.entries[g] with
              | .owned _ _ _ => logPut s.log (.keyUp h g (match reason with
                | .lift => .lift
                | .withdrawn => .lift
                | .stuck => .stuck
                | .reseed => .reseed
                | .fault => .fault))
              | _ => s.log))
        ∧ (entryHolder s.table.entries[g] ≠ some h →
          t.table = { s.table with stray := satInc s.table.stray } ∧ t.log = s.log)
        ∧ t.cad = cadenceAfter false s t.table.entries
        ∧ t = evaluate (fun d => decide (d = g)) { s with
            queue := { setSlot s.queue g (if s.ctrl.state = .online then
                slotConfirmedAgain { s with table := t.table } g slot else slot) with
              inFlight := none, withdrawnInFlight := false }
            table := t.table, log := t.log, cad := t.cad
            link := { s.link with
              line := .seeking 7, attempt := none, linkLow := false, consecutive := 0 } })

/-- The success of an own PULSE. The slot empties, or stays queued with the renewal mark cleared; the
interval timer starts with the interval of the cadence in force; a stirred flag carried and not renewed
is cleared; the own entry takes the fields. A leaving PULSE takes the station OFFLINE instead (R97,
R114, R115, R125, R132, R148). -/
def Obligations.OwnPulseSuccessStartsTheInterval : Prop :=
  ∀ (s : State) (a : Attempt) (fields : PulseFields),
    Sends a s → s.ctrl.state = .online → a.slot = .pulse → a.frame = .pulse s.number fields →
    ∃ t, exec (.frameHeard a.frame) s = .next t
      ∧ (fields.leaving = false →
          t = { s with
            queue := { s.queue with
              pulse := s.queue.renewal && s.queue.pulse, renewal := false, inFlight := none
              withdrawnInFlight := false
              intervalTimer := some (match s.cad.cadence with | .brisk => 50000 | .slack => 500000) }
            link := { s.link with
              line := .seeking 7, attempt := none, linkLow := false, consecutive := 0 }
            roster := s.roster.set s.number { s.roster[s.number] with announced := some {
              cadence := fields.cadence, hushed := fields.hushed, stirred := fields.stirred
              holdings := fields.holdings } }
            cad := if fields.stirred = true ∧ s.cad.taken = true then
              { s.cad with stirred := false, taken := false } else s.cad })
      ∧ (fields.leaving = true → StoppedFrom .offline s t ∧ t.host = s.host)

/-! ### Frames as bits (05, 11) -/

/-- Every frame that can be intact, sent bit by bit as the Formats chapter lays it out, is judged at its
last bit as that very frame (R88, R89, R177, R178). -/
def Obligations.FramesReadBackAsSent : Prop :=
  ∀ f : Frame, f.WellFormed → judge (frameBits f) = .heard f

/-- Before its last bit an intact frame is only assembled, and every cause of a discard condemns a frame at
the bit the table of R90 names, with its run: with any check but its own at the last bit, run 7; at a
dominant bit of the end field at that bit, run 0; a kind that names none of the five at the fourth bit, run
0; a PULSE holdings count of 9 to 15 at the seventeenth, run 0; and, the check right, an inverted strength
of 1023 and a reason code of 5 to 7 at the last bit, run 7 (R88 to R90, R178). -/
def Obligations.WrongChecksAreDiscarded : Prop :=
  (∀ f : Frame, f.WellFormed →
    (∀ n, 1 ≤ n → n < (frameBits f).length → judge ((frameBits f).take n) = .assembling)
    ∧ (∀ x : BitVec 8, x ≠ checkOf (coveredBits f) →
        judge (false :: (coveredBits f ++ (numBits 8 x.toNat ++ List.replicate 7 true))) = .discarded 7)
    ∧ (∀ k, k < 7 →
        judge ((frameBits f).take ((frameBits f).length - 7 + k) ++ [false]) = .discarded 0))
  ∧ (∀ x y : Bool, x = true ∨ y = true → judge [false, true, x, y] = .discarded 0)
  ∧ (∀ (p : Station) (w x y z bit : Bool) (n : Nat), 9 ≤ n → n ≤ 15 →
      judge (false :: (numBits 3 4 ++ numBits 4 p.val ++ [w, x, y, z] ++ numBits 4 n ++ [bit])) = .discarded 0)
  ∧ (∀ (p : Station) (g : Group) (c : Channel),
      let covered := numBits 3 3 ++ numBits 10 1023 ++ numBits 4 p.val ++ numBits 3 g.val ++ numBits 4 c.val
      judge (false :: (covered ++ numBits 8 (checkOf covered).toNat ++ List.replicate 7 true))
        = .discarded 7)
  ∧ (∀ (p : Station) (g : Group) (c : Channel) (code : Nat), 5 ≤ code → code ≤ 7 →
      let covered := numBits 3 1 ++ numBits 4 p.val ++ numBits 3 g.val ++ numBits 4 c.val ++ numBits 3 code
      judge (false :: (covered ++ numBits 8 (checkOf covered).toNat ++ List.replicate 7 true))
        = .discarded 7)

/-- A discard drops the frame in assembly, counts one receive error (up to 65535) and seeks with the run
the discard leaves, and changes nothing else. A kind that names none of the five condemns the frame at
its fourth bit, with the run at 0 (R88, R90, R102). -/
def Obligations.DiscardCountsOneReceiveError : Prop :=
  ∀ (s : State) (bits read : List Bool) (run : Nat),
    s.inReset = false → s.link.attempt = none → s.link.line = .receiving read →
    read.isPrefixOf bits = true →
    (judge bits = .discarded run →
      exec (.frameDiscarded bits) s = .next { s with link := { s.link with
        line := .seeking run
        rxErrors := if s.link.rxErrors = 0xFFFF#16 then 0xFFFF#16 else s.link.rxErrors + 1#16 } })
    ∧ (∀ x y : Bool, x = true ∨ y = true → bits = [false, true, x, y] →
      exec (.frameDiscarded bits) s = .next { s with link := { s.link with
        line := .seeking 0
        rxErrors := if s.link.rxErrors = 0xFFFF#16 then 0xFFFF#16 else s.link.rxErrors + 1#16 } })

/-! ### Attempts (05, 06) -/

/-- At an attempt start the slot first in order is attempted: RECAL, then RELEASEs, CONFIRMs and CLAIMs
each in ascending group order, then the PULSE. It is marked in flight, the start bit drives LINK low, and
its content is taken: a CLAIM's strength from the delta, clipped to 1 to 1023, and a PULSE's cadence,
flags and holdings, the groups OWNED here in ascending order (R21, R93, R106, R107, R132). -/
def Obligations.AttemptStartsOnTheFirstSlot : Prop :=
  ∀ s : State, s.inReset = false → s.ctrl.state = .online → s.link.line = .idle →
    s.link.attempt = none → (∃ slot, slotHeld s.queue slot = true) →
    ∃ t slot f, exec .attemptStart s = .next t
      ∧ slotHeld s.queue slot = true
      ∧ (∀ other, slotHeld s.queue other = true → attemptRank s.queue slot ≤ attemptRank s.queue other)
      ∧ t = { s with
          queue := { s.queue with inFlight := some slot, withdrawnInFlight := false }
          link := { s.link with
            attempt := some { slot := slot, frame := f, bit := 1, phase := .arbitrating }, linkLow := true }
          cad := { s.cad with taken := s.cad.taken || (decide (slot = .pulse) && s.cad.stirred) } }
      ∧ (slot = .recal → f = .recal s.number)
      ∧ (∀ g c reason, slot = .group g → s.queue.groups[g].frame = some (.release c reason) →
          f = .release s.number g c reason)
      ∧ (∀ g c, slot = .group g → s.queue.groups[g].frame = some (.confirm c) → f = .confirm s.number g c)
      ∧ (∀ g c d, slot = .group g → s.queue.groups[g].frame = some (.claim c) → s.chans[c].delta = some d →
          f = .claim (if d < 1 then 1 else if 1023 < d then 1023 else d.toNat) s.number g c)
      ∧ (slot = .pulse → ∃ holdings,
          f = .pulse s.number {
            cadence := s.cad.cadence, hushed := s.tracker.hushed, stirred := s.cad.stirred
            leaving := s.ctrl.leavePending, holdings := holdings }
          ∧ (∀ (g : Group) (c : Channel), (g, c) ∈ holdings ↔
              ∃ st since, s.table.entries[g] = .owned { station := s.number, channel := c } st since)
          ∧ (holdings.map fun pair => pair.1.val).Pairwise (· < ·))

/-- An attempt's failure. The station stops driving and seeks afresh, one failure counted, and no slot is
in flight. A RECAL and a PULSE stay queued, the renewal mark cleared. A group's slot is emptied where it was
withdrawn, or its CLAIM has a follow-up of the same channel; a follow-up behind a CONFIRM or another
channel's CLAIM takes its place; any other frame stays queued. The CONFIRM of a CONTENDING holder whose
contest timer has stopped is then requested again, and the group evaluated. The sixteenth failure in a row
ends ONLINE, into MUTED for 1000 ms with the queue emptied, the table cleared and the key states IDLE, or
into OFFLINE with LEAVE pending (R71, R76, R99, R101, R116, R117, R146, R148). -/
def Obligations.AttemptFailureCountsAndMutes : Prop :=
  ∀ (s : State) (a : Attempt) (bit : Nat),
    EndsAt a bit s → s.ctrl.state = .online → 1 ≤ bit →
    bit ≤ (frameBits a.frame).length →
    (arbitrationEnd a.frame < bit ∨ (frameBits a.frame)[bit - 1]? = some false) →
    ∃ t, exec (.attemptFailure bit) s = .next t
      ∧ t.link.txFailures = (if s.link.txFailures = 0xFFFF#16 then 0xFFFF#16
          else s.link.txFailures + 1#16)
      ∧ t.link.rxErrors = s.link.rxErrors
      ∧ t.link.attempt = none ∧ t.link.linkLow = false ∧ t.queue.inFlight = none ∧ t.host = s.host
      ∧ (s.link.consecutive + 1 < 16 →
          t.link.line = .seeking 0 ∧ t.link.consecutive = s.link.consecutive + 1
          ∧ (a.slot = .recal → t = { s with
              link := t.link, queue := { s.queue with inFlight := none, withdrawnInFlight := false } })
          ∧ (a.slot = .pulse → t = { s with
              link := t.link
              queue := { s.queue with inFlight := none, withdrawnInFlight := false, renewal := false } })
          ∧ (∀ g, a.slot = .group g → t = evaluate (fun d => decide (d = g)) { s with
              link := t.link
              queue := { setSlot s.queue g (slotConfirmedAgain s g
                  (slotAfterEnd s.queue.withdrawnInFlight s.queue.groups[g])) with
                inFlight := none, withdrawnInFlight := false } }))
      ∧ (16 ≤ s.link.consecutive + 1 → s.ctrl.leavePending = true → StoppedFrom .offline
          { s with link := t.link } t)
      ∧ (16 ≤ s.link.consecutive + 1 → s.ctrl.leavePending = false →
          t.link.line = .seeking 0 ∧ t.link.consecutive = 0
          ∧ t.ctrl = { s.ctrl with
              state := .muted, listenTimer := none, muteTimer := some 1000000, leavePending := false }
          ∧ t.queue = emptyQueue ∧ (∀ g : Group, t.table.entries[g] = .free)
          ∧ t.log = (clearedEvents s .muted).foldl logPut s.log
          ∧ (∀ c : Channel, t.chans[c] = if claimSide s.chans[c].state then
              { s.chans[c] with
                state := .idle, touchDebounce := 0, liftDebounce := 0, antiTouch := 0, holdTimer := none }
              else s.chans[c])
          ∧ t.roster = s.roster.set s.number absentEntry
          ∧ t.cad = (if s.cad.cadence = .brisk then
              { s.cad with quiet := .running s.tracker.settings.quietUs } else s.cad)
          ∧ t.tracker = s.tracker ∧ t.front = s.front)

/-- A loss of arbitration. The station stops driving and goes on receiving the winner's frame, whose bits
so far are its own up to the losing one; no counter changes, and no slot is in flight. A RECAL and a PULSE
stay queued, the renewal mark cleared; a group's slot, its CONFIRM and its evaluation are dealt with as at a
failure: emptied where it was withdrawn or its CLAIM has a follow-up of the same channel, a follow-up behind
a CONFIRM or another channel's CLAIM in its place, any other frame queued (R71, R76, R96, R116, R117). -/
def Obligations.ArbitrationLossKeepsReceiving : Prop :=
  ∀ (s : State) (a : Attempt) (bit : Nat),
    EndsAt a bit s → 2 ≤ bit → bit ≤ arbitrationEnd a.frame →
    (frameBits a.frame)[bit - 1]? = some true →
    ∃ t, exec (.lossOfArbitration bit) s = .next t
      ∧ t.link = { s.link with
          line := .receiving ((frameBits a.frame).take (bit - 1) ++ [false]), attempt := none
          linkLow := false }
      ∧ t.queue.inFlight = none
      ∧ (a.slot = .recal → t.queue = { s.queue with inFlight := none, withdrawnInFlight := false }
          ∧ t.chans = s.chans)
      ∧ (a.slot = .pulse → t.queue = { s.queue with
            inFlight := none, withdrawnInFlight := false, renewal := false } ∧ t.chans = s.chans)
      ∧ (∀ g, s.ctrl.state = .online → a.slot = .group g → t = evaluate (fun d => decide (d = g)) { s with
          link := t.link
          queue := { setSlot s.queue g (slotConfirmedAgain s g
              (slotAfterEnd s.queue.withdrawnInFlight s.queue.groups[g])) with
            inFlight := none, withdrawnInFlight := false } })
      ∧ (∀ g, a.slot = .group g → ∀ d : Group, d ≠ g → t.queue.groups[d] = s.queue.groups[d])
      ∧ t.table = s.table ∧ t.log = s.log ∧ t.cad = s.cad ∧ t.roster = s.roster ∧ t.tracker = s.tracker
      ∧ SameOutsidePanel s t

/-- The tenth recessive bit makes the line IDLE, once nine have been read, and a dominant bit read there is
a start bit with which a frame in assembly begins. An attempt that sent that start bit goes on to its second
bit. Neither changes anything else, and before nine have been read the next is not the tenth (R87, R92, R94;
log 2). -/
def Obligations.LineTurnsIdleAndTakesAStartBit : Prop :=
  ∀ s : State, s.inReset = false →
    (∀ run, s.link.line = .seeking run → 9 ≤ run →
      exec .lineIdle s = .next { s with link := { s.link with line := .idle } })
    ∧ (∀ run, s.link.line = .seeking run → run < 9 → exec .lineIdle s = .next s)
    ∧ (s.link.line = .idle → s.link.attempt = none →
      exec .startBitRead s = .next { s with link := { s.link with line := .receiving [false] } })
    ∧ (∀ a, s.link.line = .idle → s.link.attempt = some a → a.bit = 1 →
      exec .startBitRead s = .next { s with link := { s.link with
        line := .receiving [false], attempt := some { a with bit := 2, phase := .arbitrating }
        linkLow := (frameBits a.frame)[1]? == some false } })

/-! ### Timers (03, 04, 06, 07, 08, 09) -/

/-- The contest timer's expiry. It stops, the entry otherwise unchanged, and the CONFIRM of the holder
channel is requested: admitted to an empty slot or in place of a queued CLAIM, and not while a CLAIM is in
flight or a CONFIRM or RELEASE stands; refused outside ONLINE. With time left on the timer nothing changes
(log 2; R51, R76, R109, R118). -/
def Obligations.ContestExpiryRequestsTheConfirm : Prop :=
  ∀ (s : State) (g : Group) (h : Holder) (st abandon : Nat),
    s.inReset = false →
    (s.table.entries[g] = .contested h st abandon (some 0) →
      ∃ t, exec (.contestTimerExpiry g) s = .next t
        ∧ { t with queue := s.queue } = s.setEntry g (.contested h st abandon none)
        ∧ t.queue = (if s.ctrl.state = .online then
            match s.queue.groups[g].frame with
            | none => setSlot s.queue g {
                frame := some (.confirm h.channel), followUp := s.queue.groups[g].followUp }
            | some (.claim _) =>
              if s.queue.inFlight = some (.group g) then s.queue
              else setSlot s.queue g {
                frame := some (.confirm h.channel), followUp := s.queue.groups[g].followUp }
            | some _ => s.queue
          else s.queue))
    ∧ (∀ rem, s.table.entries[g] = .contested h st abandon (some rem) → 0 < rem →
      exec (.contestTimerExpiry g) s = .next s)

/-- The abandon timer's expiry. The entry is FREE without a record, one abandoned contest counted (up to
65535); a local CONTENDING holder passes to SUPPRESSED, its queued CONFIRM or RELEASE is withdrawn with a
follow-up, and one in flight, CONFIRM or RELEASE, is marked withdrawn and its follow-up removed. The group's
candidates, and no other group's, are then evaluated against the FREE entry; the quiet timer takes the
table's report. With time left on the timer nothing changes (log 2; R53, R65, R71, R72, R111, R130). -/
def Obligations.AbandonExpiryFreesTheGroup : Prop :=
  ∀ (s : State) (g : Group) (h : Holder) (st : Nat) (contest : Option Nat),
    s.inReset = false →
    (s.table.entries[g] = .contested h st 0 contest →
      ∃ t, exec (.abandonTimerExpiry g) s = .next t
        ∧ t.table = {
            entries := s.table.entries.set g .free, stray := s.table.stray
            abandoned := if s.table.abandoned = 0xFFFF#16 then 0xFFFF#16 else s.table.abandoned + 1#16 }
        ∧ (h.station = s.number → s.chans[h.channel].state = .contending →
            t.chans[h.channel] = { s.chans[h.channel] with state := .suppressed, holdTimer := none })
        ∧ (h.station = s.number → s.queue.inFlight ≠ some (.group g) →
            (s.queue.groups[g].frame.all fun f => decide (frameChannel f = h.channel)) = true →
            (t.queue.groups[g].frame.all isClaim) = true)
        ∧ (h.station = s.number → s.queue.inFlight = some (.group g) →
            ∀ f, s.queue.groups[g].frame = some f → frameChannel f = h.channel →
            t.queue.withdrawnInFlight = true
              ∧ t.queue.groups[g] = { frame := some f, followUp := none })
        ∧ (∀ d : Group, d ≠ g → t.queue.groups[d] = s.queue.groups[d])
        ∧ (∀ d : Channel, s.chans[d].setup.group ≠ g →
            h ≠ { station := s.number, channel := d } → t.chans[d] = s.chans[d])
        ∧ t.cad = (if s.cad.cadence = .brisk then { s.cad with quiet := quietWith s t.table.entries }
            else s.cad)
        ∧ t.log = s.log ∧ t.link = s.link ∧ t.roster = s.roster ∧ t.tracker = s.tracker
        ∧ SameOutsidePanel s t
        ∧ t = evaluate (fun d => decide (d = g)) { afterLoss g h s with table := t.table, cad := t.cad })
    ∧ (∀ rem, s.table.entries[g] = .contested h st rem contest → 0 < rem →
      exec (.abandonTimerExpiry g) s = .next s)

/-- The guard timer's expiry frees the group in every station state and whatever its slot holds, the quiet
timer takes the table's report, and the group's candidates are evaluated: with the slot empty and the
station ONLINE, the CLAIM queued names the candidate of the group with the greatest strength, the lowest
channel number among equals, and none is queued only where the group has no candidate with a strength. No
record changes state; with time left on the timer nothing changes at all (log 2). The evaluation itself,
wherever an event calls for it in ONLINE, suppresses the candidates that an OWNED entry or a CONTESTED one
of equal or greater strength beats, and queues, keeps, replaces or withdraws the group's CLAIM by the choice
among the eligible ones, none in GUARD; a group not called for, and everything else, stays (R55, R71 to R73,
R78, R108). -/
def Obligations.GuardExpiryClaimsForTheStrongest : Prop :=
  (∀ (s : State) (g : Group),
    s.inReset = false → s.table.entries[g] = .guarded 0 → s.ctrl.state = .online →
    s.queue.groups[g].frame = none →
    ∃ t, exec (.guardTimerExpiry g) s = .next t
      ∧ t.table = { s.table with entries := s.table.entries.set g .free }
      ∧ t.chans = s.chans
      ∧ (match t.queue.groups[g].frame with
        | none => ∀ d : Channel, s.chans[d].state = .candidate → s.chans[d].setup.group = g →
            s.chans[d].delta = none
        | some (.claim c) => s.chans[c].state = .candidate ∧ s.chans[c].setup.group = g
            ∧ ∃ best, s.chans[c].delta.map clipped = some best
              ∧ ∀ (d : Channel) (n : Nat), s.chans[d].state = .candidate → s.chans[d].setup.group = g →
                s.chans[d].delta.map clipped = some n → n < best ∨ (n = best ∧ c ≤ d)
        | _ => False)
      ∧ (∀ d : Group, d ≠ g → t.queue.groups[d] = s.queue.groups[d])
      ∧ t.cad = (if s.cad.cadence = .brisk then { s.cad with quiet := quietWith s t.table.entries }
          else s.cad)
      ∧ t.log = s.log ∧ t.link = s.link ∧ t.roster = s.roster ∧ t.tracker = s.tracker
      ∧ SameOutsidePanel s t)
  ∧ (∀ (s : State) (g : Group), s.inReset = false → s.table.entries[g] = .guarded 0 →
    let entries := s.table.entries.set g .free
    exec (.guardTimerExpiry g) s = .next (evaluate (fun d => decide (d = g)) { s with
      table := { s.table with entries := entries }
      cad := if s.cad.cadence = .brisk then { s.cad with quiet := quietWith s entries } else s.cad }))
  ∧ (∀ (s : State) (g : Group) (rem : Nat),
    s.inReset = false → s.table.entries[g] = .guarded rem → 0 < rem →
    exec (.guardTimerExpiry g) s = .next s)
  ∧ (∀ (which : Group → Bool) (s : State), s.ctrl.state = .online →
    let t := evaluate which s
    { t with chans := s.chans, queue := { t.queue with groups := s.queue.groups } } = s
      ∧ (∀ g : Group, which g = true → GroupEvaluated s t g)
      ∧ (∀ g : Group, which g = false → t.queue.groups[g] = s.queue.groups[g]
        ∧ ∀ c : Channel, s.chans[c].setup.group = g → t.chans[c] = s.chans[c]))

/-- The hold timer's expiry passes the PRESSED channel to SEEDING with its baseline kept and asks for a
RELEASE (STUCK) at its empty slot; the group stays OWNED. With time left on the timer nothing changes (log
2; R22, R81). -/
def Obligations.HoldExpirySeedsAndReleasesStuck : Prop :=
  ∀ (s : State) (c : Channel), s.inReset = false → s.chans[c].state = .pressed →
    let g := s.chans[c].setup.group
    (s.chans[c].holdTimer = some 0 →
      ∃ t, exec (.holdTimerExpiry c) s = .next t
        ∧ { t with queue := s.queue } = s.setChan c { s.chans[c] with
            state := .seeding, delta := none, deviation := none, touchDebounce := 0, liftDebounce := 0
            drift := 0, antiTouch := 0, seed := some (0, 0), holdTimer := none }
        ∧ (s.ctrl.state = .online → s.queue.groups[g] = emptySlot → s.queue.inFlight ≠ some (.group g) →
            t.queue = setSlot s.queue g { frame := some (.release c .stuck), followUp := none })
        ∧ (s.ctrl.state ≠ .online → t.queue = s.queue))
    ∧ (∀ rem, s.chans[c].holdTimer = some rem → 0 < rem → exec (.holdTimerExpiry c) s = .next s)

/-- The PULSE interval timer's expiry stops it and requests a routine PULSE, which in ONLINE is queued in an
empty slot and otherwise merges without a renewal; outside ONLINE it is refused. With time left on the timer
nothing changes (log 2; R113, R114, R118). -/
def Obligations.IntervalExpiryRequestsAPulse : Prop :=
  ∀ s : State, s.inReset = false →
    (s.queue.intervalTimer = some 0 →
      exec .pulseIntervalTimerExpiry s = .next { s with queue := { s.queue with
        intervalTimer := none, pulse := s.queue.pulse || decide (s.ctrl.state = .online) } })
    ∧ (∀ rem, s.queue.intervalTimer = some rem → 0 < rem →
      exec .pulseIntervalTimerExpiry s = .next s)

/-- The last-heard timer's expiry makes the peer ABSENT with PEER-LOST and frees every group it holds, with
KEY-UP (PEER-LOST) for each OWNED one in ascending group order. The groups freed, and no others, are
evaluated as they then stand. Cadence and station state stay; the quiet timer takes the table's report where
an entry changed. With time left on the timer, as after a frame of the peer taken first, nothing changes
(log 2; R63, R71, R72, R123, R130). -/
def Obligations.SilentPeerIsLost : Prop :=
  ∀ (s : State) (p : Station), s.inReset = false → s.roster[p].present = true →
    (s.roster[p].lastHeard = some 0 →
      ∃ t, exec (.lastHeardTimerExpiry p) s = .next t
        ∧ t.roster = s.roster.set p { present := false, lastHeard := none, announced := none }
        ∧ (∀ g : Group, t.table.entries[g] =
            if (entryHolder s.table.entries[g]).any (fun h => decide (h.station = p)) then .free
            else s.table.entries[g])
        ∧ t.table.stray = s.table.stray ∧ t.table.abandoned = s.table.abandoned
        ∧ t.log = ([Event.peerLost p] ++ keyUps (fun h => decide (h.station = p)) .peerLost
            s.table.entries).foldl logPut s.log
        ∧ t.cad.cadence = s.cad.cadence
        ∧ t.cad.quiet = (if s.cad.cadence = .brisk
              ∧ ∃ g : Group, (entryHolder s.table.entries[g]).any (fun h => decide (h.station = p)) = true
            then quietWith s t.table.entries else s.cad.quiet)
        ∧ (∀ g : Group, (entryHolder s.table.entries[g]).all (fun h => decide (h.station ≠ p)) = true →
            t.queue.groups[g] = s.queue.groups[g])
        ∧ t.link = s.link ∧ t.tracker = s.tracker ∧ SameOutsidePanel s t
        ∧ t.cad = cadenceAfter false s t.table.entries
        ∧ t = evaluate (fun g => decide (standing t.table.entries[g] ≠ standing s.table.entries[g])) { s with
            table := t.table, roster := t.roster, log := t.log, cad := t.cad })
    ∧ (∀ rem, s.roster[p].lastHeard = some rem → 0 < rem →
      exec (.lastHeardTimerExpiry p) s = .next s)

/-- The quiet timer's expiry turns the station SLACK with CADENCE and, in ONLINE, a PULSE request: queued in
an empty slot, merged with a queued PULSE, or a renewal of one in flight. With time left on the timer, as
after an activity event taken first, and with the timer held nothing changes (log 2; R113, R129 to R131). -/
def Obligations.QuietExpiryTurnsSlack : Prop :=
  ∀ s : State, s.inReset = false →
    (s.cad.quiet = .running 0 →
      exec .quietTimerExpiry s = .next { s with
        cad := { s.cad with cadence := .slack, quiet := .stopped }
        log := logPut s.log (.cadence s.number .slack)
        queue := if s.ctrl.state = .online then { s.queue with
            pulse := true
            renewal := s.queue.renewal || (s.queue.pulse && decide (s.queue.inFlight = some .pulse)) }
          else s.queue })
    ∧ (∀ rem, s.cad.quiet = .running rem → 0 < rem → exec .quietTimerExpiry s = .next s)
    ∧ (s.cad.quiet = .held → exec .quietTimerExpiry s = .next s)

/-- The millisecond tick: what is left of the millisecond passes on every running timer and on the
conversion in progress, and the clock goes up by one, from 65535 to 0, in every station state (R153). A held
quiet timer does not run, and nothing else changes. The passing of time in steps is the model's choice (log
3). -/
def Obligations.TickAdvancesTheClock : Prop :=
  ∀ s : State, s.inReset = false →
    let run : Option Nat → Option Nat := fun timer => timer.map (· - (1000 - s.sinceTick))
    ∃ t, exec .millisecondClockTick s = .next t
      ∧ t.log = { s.log with clock := BitVec.ofNat 16 ((s.log.clock.toNat + 1) % 65536) }
      ∧ t.sinceTick = 0
      ∧ t.front = { s.front with
          conversion := s.front.conversion.map fun pair => (pair.1, pair.2 - (1000 - s.sinceTick))
          waitTimer := run s.front.waitTimer }
      ∧ (∀ c : Channel, t.chans[c] = { s.chans[c] with holdTimer := run s.chans[c].holdTimer })
      ∧ (∀ g : Group, t.table.entries[g] = match s.table.entries[g] with
        | .contested h held abandon contest =>
          .contested h held (abandon - (1000 - s.sinceTick)) (run contest)
        | .guarded remaining => .guarded (remaining - (1000 - s.sinceTick))
        | e => e)
      ∧ t.table = { s.table with entries := t.table.entries }
      ∧ t.queue = { s.queue with intervalTimer := run s.queue.intervalTimer }
      ∧ (∀ p : Station, t.roster[p] = { s.roster[p] with lastHeard := run s.roster[p].lastHeard })
      ∧ t.cad = { s.cad with quiet := match s.cad.quiet with
        | .running remaining => .running (remaining - (1000 - s.sinceTick))
        | quiet => quiet }
      ∧ t.ctrl = { s.ctrl with
          setupHold := run s.ctrl.setupHold, listenTimer := run s.ctrl.listenTimer
          muteTimer := run s.ctrl.muteTimer }
      ∧ t.link = s.link ∧ t.tracker = s.tracker ∧ t.host = s.host
      ∧ t.inReset = s.inReset ∧ t.pending = s.pending ∧ t.wire = s.wire

/-! ### Station life (08) -/

/-- The setup hold's expiry validates the block: a valid one takes the station into SEEDING, an invalid one
leaves it in SETUP with SETUP-INVALID and the offset of the first bad byte. With time left nothing changes
(log 2; R139, R141, R142, R172). That an empty scan list takes the station through SEEDING to LISTEN at
once, with the brisk wait begun and one cycle counted, is the model's reading (log 19, DEDUCED). -/
def Obligations.SetupHoldExpiryValidatesTheBlock : Prop :=
  ∀ s : State, s.inReset = false → s.ctrl.state = .setup →
    (s.ctrl.setupHold = some 0 → firstBadOffset s.ctrl.block = none →
      ∃ t, exec .setupHoldTimerExpiry s = .next t ∧ StartedFrom s t ∧ t.host = s.host
        ∧ t.table.stray = s.table.stray ∧ t.table.abandoned = s.table.abandoned)
    ∧ (∀ offset, s.ctrl.setupHold = some 0 → firstBadOffset s.ctrl.block = some offset →
      exec .setupHoldTimerExpiry s = .next { s with
        ctrl := { s.ctrl with setupHold := none }
        host := { s.host with result := .setupInvalid, argument := BitVec.ofNat 8 offset } })
    ∧ (∀ rem, s.ctrl.setupHold = some rem → 0 < rem → exec .setupHoldTimerExpiry s = .next s)

/-- The block is valid exactly when every setting lies in its range, and the offset reported is that of
the lowest one that does not: c for a configuration byte, 10H + 2c for a touch threshold, and 30H to 3AH for
the settings of the station (R139, R179, R180). -/
def Obligations.ValidationFindsTheFirstBadSetting : Prop :=
  ∀ b : SetupBlock,
    let threshold : Nat → Nat := fun c => 256 * setupAt b (0x10 + 2 * c) + setupAt b (0x11 + 2 * c)
    let bad : Nat → Prop := fun offset =>
      (offset < 16 ∧ 7 < setupAt b offset / 8 % 16)
        ∨ (∃ c : Fin 16, offset = 0x10 + 2 * c.val ∧ (threshold c.val < 8 ∨ 1023 < threshold c.val))
        ∨ (offset = 0x30 ∧ 3 < setupAt b 0x30)
        ∨ (offset = 0x31 ∧ (setupAt b 0x31 = 0 ∨ 7 < setupAt b 0x31))
        ∨ (offset = 0x32 ∧ (setupAt b 0x32 = 0 ∨ 7 < setupAt b 0x32))
        ∨ (offset = 0x33 ∧ setupAt b 0x33 = 0)
        ∨ (offset = 0x34 ∧ setupAt b 0x34 = 0)
        ∨ (offset = 0x35 ∧ setupAt b 0x35 = 0)
        ∨ (offset = 0x36 ∧ (setupAt b 0x36 = 0 ∨ 15 < setupAt b 0x36))
        ∨ (offset = 0x37 ∧ (setupAt b 0x37 = 0 ∨ 15 < setupAt b 0x37))
        ∨ (offset = 0x38 ∧ 7 < setupAt b 0x38)
        ∨ (offset = 0x39 ∧ 15 < setupAt b 0x39 ∧ setupAt b 0x39 ≠ 0xFF)
        ∨ (offset = 0x3A ∧ setupAt b 0x3A = 0)
    (firstBadOffset b = none ↔
      (∀ c : Fin 16, setupAt b c / 8 % 16 ≤ 7)
      ∧ (∀ c : Fin 16, 8 ≤ threshold c ∧ threshold c ≤ 1023)
      ∧ setupAt b 0x30 ≤ 3 ∧ 1 ≤ setupAt b 0x31 ∧ setupAt b 0x31 ≤ 7 ∧ 1 ≤ setupAt b 0x32
      ∧ setupAt b 0x32 ≤ 7 ∧ 1 ≤ setupAt b 0x33 ∧ 1 ≤ setupAt b 0x34 ∧ 1 ≤ setupAt b 0x35
      ∧ 1 ≤ setupAt b 0x36 ∧ setupAt b 0x36 ≤ 15 ∧ 1 ≤ setupAt b 0x37 ∧ setupAt b 0x37 ≤ 15
      ∧ setupAt b 0x38 ≤ 7 ∧ (setupAt b 0x39 ≤ 15 ∨ setupAt b 0x39 = 255) ∧ 1 ≤ setupAt b 0x3A)
    ∧ (∀ offset, firstBadOffset b = some offset ↔ bad offset ∧ ∀ other, bad other → offset ≤ other)

/-- The listen window ends in ONLINE: own entry PRESENT, PULSE queued with the interval timer stopped,
STATION logged, and every group evaluated against the table learned in LISTEN, so that each candidate is
suppressed by an OWNED entry or a CONTESTED one of equal or greater strength, waits on a GUARD, or is the
choice for whose CLAIM the slot then stands. The mute period ends in LISTEN for 1200 ms, and nothing else
changes. With time left on the timer neither changes anything (log 2; R71 to R73, R108, R144 to R146). -/
def Obligations.ListenAndMuteEnd : Prop :=
  ∀ s : State, s.inReset = false →
    (s.ctrl.state = .listen → s.ctrl.listenTimer = some 0 →
      ∃ t, exec .listenTimerExpiry s = .next t
        ∧ t.ctrl = { s.ctrl with
            state := .online, listenTimer := none, muteTimer := none, leavePending := false }
        ∧ t.roster = s.roster.set s.number { present := true, lastHeard := none, announced := none }
        ∧ t.link = { s.link with consecutive := 0 }
        ∧ t.queue.pulse = true ∧ t.queue.intervalTimer = none ∧ t.queue.recal = s.queue.recal
        ∧ t.log = logPut s.log (.station s.number .online)
        ∧ (∀ g : Group, GroupEvaluated s t g)
        ∧ t.table = s.table ∧ t.cad = s.cad ∧ t.front = s.front ∧ t.tracker = s.tracker
        ∧ t.host = s.host)
    ∧ (s.ctrl.state = .muted → s.ctrl.muteTimer = some 0 →
      exec .muteTimerExpiry s = .next { s with
        ctrl := { s.ctrl with
          state := .listen, listenTimer := some 1200000, muteTimer := none, leavePending := false }
        log := logPut s.log (.station s.number .listen) })
    ∧ (∀ rem, s.ctrl.listenTimer = some rem → 0 < rem → exec .listenTimerExpiry s = .next s)
    ∧ (∀ rem, s.ctrl.muteTimer = some rem → 0 < rem → exec .muteTimerExpiry s = .next s)

/-- JOIN. In SETUP with a valid block, and in OFFLINE, the station starts into SEEDING with result DONE
and its counters kept; an invalid block gives SETUP-INVALID with the offset; every other state refuses
(R140, R142, R172). That a start from OFFLINE clears each record's rail run and in-range counter as a
RESTART does (log 12, DEDUCED), and that an empty scan list takes the station through SEEDING to LISTEN at
once, with the brisk wait begun and one cycle counted (log 19, DEDUCED), is the model's reading. -/
def Obligations.JoinStartsOrIsRefused : Prop :=
  ∀ s : State, s.inReset = false →
    ((s.ctrl.state = .setup ∧ firstBadOffset s.ctrl.block = none) ∨ s.ctrl.state = .offline →
      ∃ t, exec .join s = .next t ∧ StartedFrom s t
        ∧ t.table.stray = s.table.stray ∧ t.table.abandoned = s.table.abandoned
        ∧ t.link.rxErrors = s.link.rxErrors ∧ t.link.txFailures = s.link.txFailures
        ∧ t.host = { s.host with result := .done })
    ∧ (∀ offset, s.ctrl.state = .setup → firstBadOffset s.ctrl.block = some offset →
      exec .join s = .next { s with
        ctrl := { s.ctrl with setupHold := none }
        host := { s.host with result := .setupInvalid, argument := BitVec.ofNat 8 offset } })
    ∧ (s.ctrl.state ≠ .setup → s.ctrl.state ≠ .offline →
      exec .join s = .next { s with host := { s.host with result := .refusedState } })

/-- RESTART. From every state but SETUP the station starts into SEEDING with the four counters and the
failure run at 0, its log, straps and block kept, and result DONE; in SETUP it is refused (R10, R68,
R102, R151, R162, R176). That an empty scan list takes the station through SEEDING to LISTEN at once, with
the brisk wait begun and one cycle counted, is the model's reading (log 19, DEDUCED). -/
def Obligations.RestartStartsWithCountersCleared : Prop :=
  ∀ s : State, s.inReset = false →
    (s.ctrl.state ≠ .setup →
      ∃ t, exec .restart s = .next t ∧ StartedFrom s t
        ∧ t.table.stray = 0#16 ∧ t.table.abandoned = 0#16
        ∧ t.link.rxErrors = 0#16 ∧ t.link.txFailures = 0#16 ∧ t.link.consecutive = 0
        ∧ t.host = { s.host with result := .done })
    ∧ (s.ctrl.state = .setup →
      exec .restart s = .next { s with host := { s.host with result := .refusedState } })

/-- RESEED of the channel the argument names. A key channel that is not OFF passes to SEEDING with its
baseline kept, a FAULTED one with its in-range run gone, with no record and result DONE. It asks for the
frames of the state it leaves as the table of R81 gives them, each with reason RESEED: a CANDIDATE's queued
CLAIM is withdrawn and one in flight takes a follow-up, a CONTENDING channel's contest timer stops and its
slot takes the RELEASE or the follow-up and its group is evaluated, a PRESSED one's empty slot takes the
RELEASE. That the group of a CANDIDATE is not evaluated is the model's reading (log 13, DEDUCED). Any other
argument gives BAD-ARGUMENT and nothing else (R16, R22, R24, R50, R75, R77, R81, R170). -/
def Obligations.ReseedSeedsOneKeyChannel : Prop :=
  ∀ s : State, s.inReset = false →
    (∀ c : Channel, s.host.argument = BitVec.ofNat 8 c.val → s.isKey c = true →
      s.chans[c].state ≠ .off →
      let seeded : Chan := { s.chans[c] with
        state := .seeding, delta := none, deviation := none, touchDebounce := 0, liftDebounce := 0
        drift := 0, antiTouch := 0, seed := some (0, 0), holdTimer := none
        rail := if s.chans[c].state = .faulted then 0 else s.chans[c].rail
        inRange := if s.chans[c].state = .faulted then none else s.chans[c].inRange }
      let g := s.chans[c].setup.group
      ∃ t, exec .reseed s = .next t
        ∧ t.chans[c] = seeded ∧ t.host = { s.host with result := .done }
        ∧ t.log = s.log ∧ t.ctrl = s.ctrl ∧ t.cad = s.cad ∧ t.roster = s.roster ∧ t.link = s.link
        ∧ t.front = s.front ∧ t.tracker = s.tracker
        ∧ (∀ d : Group, standing t.table.entries[d] = standing s.table.entries[d])
        ∧ (LeavesByTable s c → { t with host := s.host } =
            evaluate (fun d => decide (d = g ∧ s.chans[c].state = .contending))
              (afterLeave .reseed c seeded s)))
    ∧ ((16 ≤ s.host.argument.toNat ∨ ∃ c : Channel, s.host.argument = BitVec.ofNat 8 c.val
          ∧ (s.isKey c = false ∨ s.chans[c].state = .off)) →
      exec .reseed s = .next { s with host := { s.host with result := .badArgument } })

/-- PANEL-RECAL queues a RECAL in ONLINE, DONE, or finds one there, ALREADY-PENDING, and is refused in
every other state. CLEAR-COUNTERS puts the four counters at 0 in any state, DONE. A command byte that
names none of the six gives BAD-ARGUMENT. Nothing else changes (R112, R170, R175). -/
def Obligations.RecalClearAndUnknownCommands : Prop :=
  ∀ s : State, s.inReset = false →
    exec .panelRecal s = .next (if s.ctrl.state = .online then
        { s with
          queue := { s.queue with recal := true }
          host := { s.host with result := if s.queue.recal then .alreadyPending else .done } }
      else { s with host := { s.host with result := .refusedState } })
    ∧ exec .clearCounters s = .next { s with
        table := { s.table with stray := 0#16, abandoned := 0#16 }
        link := { s.link with rxErrors := 0#16, txFailures := 0#16 }
        host := { s.host with result := .done } }
    ∧ (∀ code : Byte, code = 0#8 ∨ 7 ≤ code.toNat →
        exec (.unknownCommand code) s = .next { s with host := { s.host with result := .badArgument } })

/-- LEAVE. In ONLINE it sets LEAVE pending and requests a PULSE, or finds it pending; SEEDING, LISTEN and
MUTED pass to OFFLINE at once; SETUP, HALTED and OFFLINE refuse (R113, R147, R150). -/
def Obligations.LeaveGoesOfflineOrWaits : Prop :=
  ∀ s : State, s.inReset = false →
    (s.ctrl.state = .online → s.ctrl.leavePending = false →
      exec .leave s = .next { s with
        ctrl := { s.ctrl with leavePending := true }
        queue := { s.queue with
          pulse := true
          renewal := s.queue.renewal || (s.queue.pulse && decide (s.queue.inFlight = some .pulse)) }
        host := { s.host with result := .done } })
    ∧ (s.ctrl.state = .online → s.ctrl.leavePending = true →
      exec .leave s = .next { s with host := { s.host with result := .alreadyPending } })
    ∧ (s.ctrl.state = .seeding ∨ s.ctrl.state = .listen ∨ s.ctrl.state = .muted →
      ∃ t, exec .leave s = .next t ∧ StoppedFrom .offline s t
        ∧ t.host = { s.host with result := .done })
    ∧ (s.ctrl.state = .setup ∨ s.ctrl.state = .halted ∨ s.ctrl.state = .offline →
      exec .leave s = .next { s with host := { s.host with result := .refusedState } })

/-! ### Host port (10) -/

/-- A start with the port's own address begins a transaction in the address byte's direction and is
acknowledged; another address is not, and nothing begins. A start during a transaction first ends it by a
repeated start (R163, R166; log 8). -/
def Obligations.StartBeginsATransaction : Prop :=
  ∀ (s : State) (b : Byte), s.inReset = false →
    (s.host.transaction = none → b.toNat / 2 = 0x4C + s.ctrl.straps.address.val →
      exec (.hostTransactionStart b) s = .next { s with host := { s.host with
        transaction := some {
          direction := if b.toNat % 2 = 1 then .read else .write, indexDue := decide (b.toNat % 2 = 0)
          nacked := false, readLast := false }
        sda := .acknowledged } })
    ∧ (s.host.transaction = none → b.toNat / 2 ≠ 0x4C + s.ctrl.straps.address.val →
      exec (.hostTransactionStart b) s = .next { s with host := { s.host with sda := .released } })
    ∧ (∀ u, s.host.transaction.isSome = true → exec (.hostTransactionEnd .repeatedStart) s = .next u →
      u.host.transaction = none
        ∧ exec (.hostTransactionStart b) s = exec (.hostTransactionStart b) u)

/-- A transaction's end drops its snapshots, latches and pending command, and releases SDA. A READ that read
27H, ended with a stop and snapped a record first takes the log's head, with a LOST record admitted where
records were refused; any other READ takes nothing; a WRITE first hands its command on, with the effect that
command has (log 6), any byte but the six codes as an unknown command (R157, R158, R164, R166, R168, R170,
R181). -/
def Obligations.TransactionEndTakesOrHandsOn : Prop :=
  ∀ (s : State) (how : BusEnd) (tr : Transaction), s.inReset = false → s.host.transaction = some tr →
    let dropped := fun u : State => { u with host := { u.host with
      commandPending := none, transaction := none, recordSnapshot := none, eventSnapshot := none
      latches := noLatches, sda := .released, byteSent := none } }
    (tr.direction = .read → how = .stop → tr.readLast = true →
      (∃ r, s.host.eventSnapshot = some (.record r)) →
      exec (.hostTransactionEnd how) s = .next (dropped { s with log :=
        if s.log.lostCount = 0#8 then
          { s.log with records := s.log.records.tail, rptLow := !s.log.records.tail.isEmpty }
        else { logPut { s.log with
            records := s.log.records.tail, rptLow := !s.log.records.tail.isEmpty }
            (.lost s.number s.log.lostCount) with lostCount := 0#8 } }))
    ∧ (tr.direction = .read → how ≠ .stop ∨ tr.readLast = false ∨ s.host.eventSnapshot = none
          ∨ s.host.eventSnapshot = some .empty →
      exec (.hostTransactionEnd how) s = .next (dropped s))
    ∧ (tr.direction = .write → s.host.commandPending = none →
      exec (.hostTransactionEnd how) s = .next (dropped s))
    ∧ (∀ (code : Byte) (command : Instr) (u : State),
        (code, command) ∈ [(0x01#8, Instr.join), (0x02#8, .restart), (0x03#8, .reseed),
            (0x04#8, .panelRecal), (0x05#8, .leave), (0x06#8, .clearCounters)]
          ∨ ((code = 0x00#8 ∨ 7 ≤ code.toNat) ∧ command = .unknownCommand code) →
        tr.direction = .write → s.host.commandPending = some code → exec command s = .next u →
        exec (.hostTransactionEnd how) s = .next (dropped u))

/-- The bytes of a WRITE transaction. The first is the index; each other acts at its index and advances it,
from 7FH to 00H: the setup window stores in SETUP with the lock open and else sets REFUSED-STATE, 03H and
04H set the cursor, 01H the pending command, 02H the argument, and every other index discards. All are
acknowledged (R164, R173, R174). Which of the table's rows carries a byte is the model's choice (log 7). -/
def Obligations.WrittenBytesActAtTheirIndex : Prop :=
  ∀ (s : State) (v : Byte) (tr : Transaction), s.inReset = false → s.host.transaction = some tr →
    tr.direction = .write →
    (tr.indexDue = true →
      exec (.registerWrite v) s = .next { s with host := { s.host with
        index := v.setWidth 7
        transaction := some { tr with indexDue := false }, sda := .acknowledged } })
    ∧ (tr.indexDue = false → 0x40 ≤ s.host.index.toNat → s.ctrl.state = .setup →
        s.ctrl.lockOpen = true →
      exec (.setupWindowWrite v) s = .next { s with
        ctrl := { s.ctrl with block := s.ctrl.block.set (Fin.ofNat 64 (s.host.index.toNat - 0x40)) v }
        host := { s.host with index := s.host.index + 1#7, sda := .acknowledged } })
    ∧ (tr.indexDue = false → 0x40 ≤ s.host.index.toNat →
        s.ctrl.state ≠ .setup ∨ s.ctrl.lockOpen = false →
      exec (.setupWindowWrite v) s = .next { s with host := { s.host with
        result := .refusedState, index := s.host.index + 1#7, sda := .acknowledged } })
    ∧ (tr.indexDue = false → s.host.index = 0x03#7 →
      exec (.cursorWrite v) s = .next { s with host := { s.host with
        cursorKind := v, index := 0x04#7, sda := .acknowledged } })
    ∧ (tr.indexDue = false → s.host.index = 0x04#7 →
      exec (.cursorWrite v) s = .next { s with host := { s.host with
        cursorIndex := v, index := 0x05#7, sda := .acknowledged } })
    ∧ (tr.indexDue = false → s.host.index = 0x01#7 →
      exec (.registerWrite v) s = .next { s with host := { s.host with
        commandPending := some v, index := 0x02#7, sda := .acknowledged } })
    ∧ (tr.indexDue = false → s.host.index = 0x02#7 →
      exec (.registerWrite v) s = .next { s with host := { s.host with
        argument := v, index := 0x03#7, sda := .acknowledged } })
    ∧ (tr.indexDue = false → s.host.index = 0x00#7 ∨ (5 ≤ s.host.index.toNat ∧ s.host.index.toNat < 0x40) →
      exec (.registerWrite v) s = .next { s with host := { s.host with
        index := s.host.index + 1#7, sda := .acknowledged } })

/-- The bytes of a READ transaction. The record window sends from one snapshot, taken of the record that the
cursor selects and laid out byte by byte as R183 gives it, or the empty marker; the event window from one of
the log's head, laid out as the event record, or the empty marker; each of the six two-byte values from its
latch, high byte at the even index; and the single bytes live, the status byte with its four fields and the
result with its code. Each byte sent advances the index, and the byte at 27H counts as read. After a byte
left unacknowledged SDA is released and no more are sent. The group shown is that of the setup block (log
10, DEDUCED), a bit not used inside a used byte of a record reads 0 (log 22), and the row of the latches
carries the single bytes (log 7). The station is only read (R67, R85, R127, R159, R160, R165, R167 to R169,
R175, R181 to R184). -/
def Obligations.ReadBytesComeFromTheirCopies : Prop :=
  ∀ (s : State) (ack : Bool) (tr : Transaction), s.inReset = false → s.host.transaction = some tr →
    tr.direction = .read →
    let i := s.host.index.toNat
    let sent : Byte → HostPort → State := fun v port => { s with host := { port with
      sda := if ack then .sending else .released, byteSent := some v, index := s.host.index + 1#7
      transaction := some { tr with
        nacked := !ack, readLast := tr.readLast || decide (s.host.index = 0x27#7) } } }
    (tr.nacked = true →
        exec (.recordWindowRead ack) s = .next s ∧ exec (.eventWindowRead ack) s = .next s
          ∧ exec (.valueLatchRead ack) s = .next s)
    ∧ (tr.nacked = false → ∀ snap : Vector Byte 16, 0x10 ≤ i → i ≤ 0x1F →
        (s.host.recordSnapshot = some snap
          ∨ (s.host.recordSnapshot = none ∧ snap.toList = (recordLayout s).map (BitVec.ofNat 8))) →
        exec (.recordWindowRead ack) s = .next
          (sent (snap[i - 0x10]?.getD 0xFF#8) { s.host with recordSnapshot := some snap }))
    ∧ (tr.nacked = false → ∀ snap : EventSnapshot, 0x20 ≤ i → i ≤ 0x27 →
        (s.host.eventSnapshot = some snap
          ∨ (s.host.eventSnapshot = none ∧ (match s.log.records with
            | r :: _ => snap = .record r
            | [] => snap = .empty))) →
        ∃ v, (eventLayout snap)[i - 0x20]?.map (BitVec.ofNat 8) = some v
          ∧ exec (.eventWindowRead ack) s = .next (sent v { s.host with eventSnapshot := some snap }))
    ∧ (tr.nacked = false → ∀ (w : Word) (kept : Latches),
        let now := s.host.latches
        ((i = 0x06 ∨ i = 0x07) ∧ w = now.clock.getD s.log.clock ∧ kept = { now with clock := some w })
          ∨ ((i = 0x08 ∨ i = 0x09) ∧ w = now.rxErrors.getD s.link.rxErrors
            ∧ kept = { now with rxErrors := some w })
          ∨ ((i = 0x0A ∨ i = 0x0B) ∧ w = now.txFailures.getD s.link.txFailures
            ∧ kept = { now with txFailures := some w })
          ∨ ((i = 0x0C ∨ i = 0x0D) ∧ w = now.stray.getD s.table.stray ∧ kept = { now with stray := some w })
          ∨ ((i = 0x0E ∨ i = 0x0F) ∧ w = now.abandoned.getD s.table.abandoned
            ∧ kept = { now with abandoned := some w })
          ∨ ((i = 0x28 ∨ i = 0x29) ∧ w = now.cycle.getD s.front.cycle ∧ kept = { now with cycle := some w }) →
        exec (.valueLatchRead ack) s = .next
          (sent (if i % 2 = 0 then BitVec.ofNat 8 (w.toNat / 256) else BitVec.ofNat 8 w.toNat)
            { s.host with latches := kept }))
    ∧ (tr.nacked = false → ∀ v : Byte,
        (i = 0x00 ∧ v = BitVec.ofNat 8 (32 * stationByte s.ctrl.state
            + (if s.cad.cadence = .slack then 16 else 0) + (if s.tracker.hushed then 8 else 0)
            + (if s.ctrl.leavePending then 4 else 0)))
          ∨ (i = 0x01 ∧ v = (match s.host.result with
            | .done => 0x00#8 | .alreadyPending => 0x01#8 | .refusedState => 0x02#8
            | .badArgument => 0x03#8 | .setupInvalid => 0x04#8))
          ∨ (i = 0x02 ∧ v = s.host.argument) ∨ (i = 0x03 ∧ v = s.host.cursorKind)
          ∨ (i = 0x04 ∧ v = s.host.cursorIndex)
          ∨ (i = 0x05 ∧ v = BitVec.ofNat 8 s.log.records.length)
          ∨ (0x2A ≤ i ∧ i ≤ 0x3F ∧ v = 0#8)
          ∨ (0x40 ≤ i ∧ s.ctrl.block[i - 0x40]? = some v) →
        exec (.valueLatchRead ack) s = .next (sent v s.host))

/-! ### Event log (09) -/

/-- A record handed to the log while it holds fewer than 32 is admitted at the tail with the next number
and the clock, and RPT is low from the first on; while it holds 32 it is refused, and the lost count goes
up by one and stays at 255. A record handed changes nothing outside the log (R154, R156). -/
def Obligations.LogAdmitsOrCountsEachRecord : Prop :=
  ∀ (s : State) (e : Event),
    { s.put e with log := s.log } = s
    ∧ (s.log.records.length < 32 →
        (s.put e).log.records = s.log.records ++ [{
          number := s.log.nextNumber, stamp := s.log.clock, event := e }]
        ∧ (s.put e).log.nextNumber = BitVec.ofNat 8 ((s.log.nextNumber.toNat + 1) % 256)
        ∧ (s.put e).log.rptLow = true ∧ (s.put e).log.lostCount = s.log.lostCount)
    ∧ (32 ≤ s.log.records.length →
        (s.put e).log.records = s.log.records ∧ (s.put e).log.nextNumber = s.log.nextNumber
        ∧ (s.put e).log.rptLow = s.log.rptLow
        ∧ (s.put e).log.lostCount = BitVec.ofNat 8 (min 255 (s.log.lostCount.toNat + 1)))
    ∧ (s.put e).log.clock = s.log.clock

/-! ### What every step keeps -/

/-- Every step keeps the log coherent: at most 32 records, numbered without a gap up to the next number,
RPT low exactly while one is held, and refusals counted only while it is full (R154, R156 to R158). -/
def Obligations.EveryStepKeepsTheLogCoherent : Prop :=
  ∀ s t : State, LogInv s.log → step s = .next t → LogInv t.log

/-- Every step keeps the front end and the station controller coherent, together: what runs in a station
state runs in it, what it excludes is absent, and SEEDING lasts only while a record seeds (R1, R3, R4, R6,
R69, R87, R93, R101, R118, R138, R141, R143, R144, R146, R147). -/
def Obligations.EveryStepKeepsTheStationCoherent : Prop :=
  ∀ s t : State, FrontInv s → StationInv s → step s = .next t → FrontInv t ∧ StationInv t

/-- While the front end is coherent, every step keeps every channel record coherent: counts and counters in
range, the fields of one state in it alone, the delta that of baseline and count, and key channels alone
in ARMING or on the claim side (R1, R11 to R15, R20, R23, R26 to R28, R30, R32, R79). -/
def Obligations.EveryStepKeepsTheChannelsCoherent : Prop :=
  ∀ s t : State, FrontInv s → ChannelInv s → step s = .next t → ChannelInv t

/-- Every step keeps the transmit queue coherent with the attempt: the slot in flight is the attempt's and
holds a frame, a follow-up stands only behind a CLAIM or CONFIRM in flight (R105, R106, R110, R111,
R113). -/
def Obligations.EveryStepKeepsTheQueueCoherent : Prop :=
  ∀ s t : State, QueueInv s → step s = .next t → QueueInv t

/-- In a station whose controller and front end are coherent, every step keeps the roster and the claim
table coherent: a group is held only by this station or a PRESENT peer, strengths and timers are in range,
and both are empty while the receiver is stopped (R43, R44, R119, R124 to R126). -/
def Obligations.EveryStepKeepsThePanelViewCoherent : Prop :=
  ∀ s t : State, FrontInv s → StationInv s → PanelInv s → step s = .next t → PanelInv t

/-- In a station whose controller and front end are coherent, every step keeps cadence control coherent:
the quiet timer runs or is held in BRISK while scanning runs and at no other time, and is held exactly
while an entry is CONTESTED or OWNED (R128, R130, R132, R134). -/
def Obligations.EveryStepKeepsTheCadenceCoherent : Prop :=
  ∀ s t : State, FrontInv s → StationInv s → CadenceInv s → step s = .next t → CadenceInv t

/-- A full reset, with any straps, leaves every block coherent. -/
def Obligations.FullResetLeavesEveryBlockCoherent : Prop :=
  ∀ straps : Straps, let s := State.resetWith straps
    LogInv s.log ∧ FrontInv s ∧ StationInv s ∧ ChannelInv s ∧ QueueInv s ∧ PanelInv s ∧ CadenceInv s

/-- HALTED is left only by a RESTART taken, from its row or at the end of the transaction that wrote it,
or by a reset (R149). -/
def Obligations.HaltedIsLeftOnlyByRestartOrReset : Prop :=
  ∀ (c : Instr) (s t : State), StationInv s → FrontInv s → s.ctrl.state = .halted →
    exec c s = .next t → t.ctrl.state ≠ .halted →
    c = .restart ∨ (∃ straps, c = .fullReset straps) ∨ c = .resetAsserted
      ∨ (((∃ how, c = .hostTransactionEnd how) ∨ ∃ b, c = .hostTransactionStart b)
        ∧ s.host.commandPending = some 0x02#8)

/-- No command touches the queue of commands or the levels to come on the line: both are the model's own
inputs (logs 17 and 4, DESIGN CHOICE), which the spec does not have. Outside a reset no command but the
millisecond tick moves the clock, none changes the straps, and none but a setup window write in SETUP with
the lock open changes the setup block (R137, R138, R153). -/
def Obligations.ClockStrapsSetupAndPendingAreKept : Prop :=
  ∀ (c : Instr) (s t : State), exec c s = .next t →
    t.pending = s.pending ∧ t.wire = s.wire
    ∧ ((∀ straps, c ≠ .fullReset straps) → c ≠ .resetAsserted →
      t.ctrl.straps = s.ctrl.straps
      ∧ (c ≠ .millisecondClockTick → t.log.clock = s.log.clock)
      ∧ ((∀ v, c ≠ .setupWindowWrite v) ∨ s.ctrl.state ≠ .setup ∨ s.ctrl.lockOpen = false →
          t.ctrl.block = s.ctrl.block))
end

