-- ==== Sys2Proof/Laws/State.lean ====
section
/-! SUPPORT. What each named update of the state leaves in each field: one lemma per field, true by
definition. -/

namespace Sys2Proof.Machine

@[simp] theorem State.put_pending (s : State) (e : Event) : (s.put e).pending = s.pending := rfl
@[simp] theorem State.put_wire (s : State) (e : Event) : (s.put e).wire = s.wire := rfl
@[simp] theorem State.put_inReset (s : State) (e : Event) : (s.put e).inReset = s.inReset := rfl
@[simp] theorem State.put_sinceTick (s : State) (e : Event) : (s.put e).sinceTick = s.sinceTick := rfl
@[simp] theorem State.put_front (s : State) (e : Event) : (s.put e).front = s.front := rfl
@[simp] theorem State.put_chans (s : State) (e : Event) : (s.put e).chans = s.chans := rfl
@[simp] theorem State.put_tracker (s : State) (e : Event) : (s.put e).tracker = s.tracker := rfl
@[simp] theorem State.put_table (s : State) (e : Event) : (s.put e).table = s.table := rfl
@[simp] theorem State.put_queue (s : State) (e : Event) : (s.put e).queue = s.queue := rfl
@[simp] theorem State.put_link (s : State) (e : Event) : (s.put e).link = s.link := rfl
@[simp] theorem State.put_roster (s : State) (e : Event) : (s.put e).roster = s.roster := rfl
@[simp] theorem State.put_cad (s : State) (e : Event) : (s.put e).cad = s.cad := rfl
@[simp] theorem State.put_ctrl (s : State) (e : Event) : (s.put e).ctrl = s.ctrl := rfl
@[simp] theorem State.put_log (s : State) (e : Event) : (s.put e).log = logPut s.log e := rfl
@[simp] theorem State.put_host (s : State) (e : Event) : (s.put e).host = s.host := rfl

@[simp] theorem State.putAll_pending (s : State) (es : List Event) : (s.putAll es).pending = s.pending := rfl
@[simp] theorem State.putAll_wire (s : State) (es : List Event) : (s.putAll es).wire = s.wire := rfl
@[simp] theorem State.putAll_inReset (s : State) (es : List Event) : (s.putAll es).inReset = s.inReset := rfl
@[simp] theorem State.putAll_sinceTick (s : State) (es : List Event) : (s.putAll es).sinceTick = s.sinceTick := rfl
@[simp] theorem State.putAll_front (s : State) (es : List Event) : (s.putAll es).front = s.front := rfl
@[simp] theorem State.putAll_chans (s : State) (es : List Event) : (s.putAll es).chans = s.chans := rfl
@[simp] theorem State.putAll_tracker (s : State) (es : List Event) : (s.putAll es).tracker = s.tracker := rfl
@[simp] theorem State.putAll_table (s : State) (es : List Event) : (s.putAll es).table = s.table := rfl
@[simp] theorem State.putAll_queue (s : State) (es : List Event) : (s.putAll es).queue = s.queue := rfl
@[simp] theorem State.putAll_link (s : State) (es : List Event) : (s.putAll es).link = s.link := rfl
@[simp] theorem State.putAll_roster (s : State) (es : List Event) : (s.putAll es).roster = s.roster := rfl
@[simp] theorem State.putAll_cad (s : State) (es : List Event) : (s.putAll es).cad = s.cad := rfl
@[simp] theorem State.putAll_ctrl (s : State) (es : List Event) : (s.putAll es).ctrl = s.ctrl := rfl
@[simp] theorem State.putAll_log (s : State) (es : List Event) : (s.putAll es).log = es.foldl logPut s.log := rfl
@[simp] theorem State.putAll_host (s : State) (es : List Event) : (s.putAll es).host = s.host := rfl

@[simp] theorem State.setChan_pending (s : State) (c : Channel) (r : Chan) : (s.setChan c r).pending = s.pending := rfl
@[simp] theorem State.setChan_wire (s : State) (c : Channel) (r : Chan) : (s.setChan c r).wire = s.wire := rfl
@[simp] theorem State.setChan_inReset (s : State) (c : Channel) (r : Chan) : (s.setChan c r).inReset = s.inReset := rfl
@[simp] theorem State.setChan_sinceTick (s : State) (c : Channel) (r : Chan) : (s.setChan c r).sinceTick = s.sinceTick := rfl
@[simp] theorem State.setChan_front (s : State) (c : Channel) (r : Chan) : (s.setChan c r).front = s.front := rfl
@[simp] theorem State.setChan_chans (s : State) (c : Channel) (r : Chan) : (s.setChan c r).chans = s.chans.set c r := rfl
@[simp] theorem State.setChan_tracker (s : State) (c : Channel) (r : Chan) : (s.setChan c r).tracker = s.tracker := rfl
@[simp] theorem State.setChan_table (s : State) (c : Channel) (r : Chan) : (s.setChan c r).table = s.table := rfl
@[simp] theorem State.setChan_queue (s : State) (c : Channel) (r : Chan) : (s.setChan c r).queue = s.queue := rfl
@[simp] theorem State.setChan_link (s : State) (c : Channel) (r : Chan) : (s.setChan c r).link = s.link := rfl
@[simp] theorem State.setChan_roster (s : State) (c : Channel) (r : Chan) : (s.setChan c r).roster = s.roster := rfl
@[simp] theorem State.setChan_cad (s : State) (c : Channel) (r : Chan) : (s.setChan c r).cad = s.cad := rfl
@[simp] theorem State.setChan_ctrl (s : State) (c : Channel) (r : Chan) : (s.setChan c r).ctrl = s.ctrl := rfl
@[simp] theorem State.setChan_log (s : State) (c : Channel) (r : Chan) : (s.setChan c r).log = s.log := rfl
@[simp] theorem State.setChan_host (s : State) (c : Channel) (r : Chan) : (s.setChan c r).host = s.host := rfl

@[simp] theorem State.setEntry_pending (s : State) (g : Group) (e : Entry) : (s.setEntry g e).pending = s.pending := rfl
@[simp] theorem State.setEntry_wire (s : State) (g : Group) (e : Entry) : (s.setEntry g e).wire = s.wire := rfl
@[simp] theorem State.setEntry_inReset (s : State) (g : Group) (e : Entry) : (s.setEntry g e).inReset = s.inReset := rfl
@[simp] theorem State.setEntry_sinceTick (s : State) (g : Group) (e : Entry) : (s.setEntry g e).sinceTick = s.sinceTick := rfl
@[simp] theorem State.setEntry_front (s : State) (g : Group) (e : Entry) : (s.setEntry g e).front = s.front := rfl
@[simp] theorem State.setEntry_chans (s : State) (g : Group) (e : Entry) : (s.setEntry g e).chans = s.chans := rfl
@[simp] theorem State.setEntry_tracker (s : State) (g : Group) (e : Entry) : (s.setEntry g e).tracker = s.tracker := rfl
@[simp] theorem State.setEntry_table (s : State) (g : Group) (e : Entry) : (s.setEntry g e).table = { s.table with entries := s.table.entries.set g e } := rfl
@[simp] theorem State.setEntry_queue (s : State) (g : Group) (e : Entry) : (s.setEntry g e).queue = s.queue := rfl
@[simp] theorem State.setEntry_link (s : State) (g : Group) (e : Entry) : (s.setEntry g e).link = s.link := rfl
@[simp] theorem State.setEntry_roster (s : State) (g : Group) (e : Entry) : (s.setEntry g e).roster = s.roster := rfl
@[simp] theorem State.setEntry_cad (s : State) (g : Group) (e : Entry) : (s.setEntry g e).cad = s.cad := rfl
@[simp] theorem State.setEntry_ctrl (s : State) (g : Group) (e : Entry) : (s.setEntry g e).ctrl = s.ctrl := rfl
@[simp] theorem State.setEntry_log (s : State) (g : Group) (e : Entry) : (s.setEntry g e).log = s.log := rfl
@[simp] theorem State.setEntry_host (s : State) (g : Group) (e : Entry) : (s.setEntry g e).host = s.host := rfl

@[simp] theorem State.setRoster_pending (s : State) (p : Station) (e : RosterEntry) : (s.setRoster p e).pending = s.pending := rfl
@[simp] theorem State.setRoster_wire (s : State) (p : Station) (e : RosterEntry) : (s.setRoster p e).wire = s.wire := rfl
@[simp] theorem State.setRoster_inReset (s : State) (p : Station) (e : RosterEntry) : (s.setRoster p e).inReset = s.inReset := rfl
@[simp] theorem State.setRoster_sinceTick (s : State) (p : Station) (e : RosterEntry) : (s.setRoster p e).sinceTick = s.sinceTick := rfl
@[simp] theorem State.setRoster_front (s : State) (p : Station) (e : RosterEntry) : (s.setRoster p e).front = s.front := rfl
@[simp] theorem State.setRoster_chans (s : State) (p : Station) (e : RosterEntry) : (s.setRoster p e).chans = s.chans := rfl
@[simp] theorem State.setRoster_tracker (s : State) (p : Station) (e : RosterEntry) : (s.setRoster p e).tracker = s.tracker := rfl
@[simp] theorem State.setRoster_table (s : State) (p : Station) (e : RosterEntry) : (s.setRoster p e).table = s.table := rfl
@[simp] theorem State.setRoster_queue (s : State) (p : Station) (e : RosterEntry) : (s.setRoster p e).queue = s.queue := rfl
@[simp] theorem State.setRoster_link (s : State) (p : Station) (e : RosterEntry) : (s.setRoster p e).link = s.link := rfl
@[simp] theorem State.setRoster_roster (s : State) (p : Station) (e : RosterEntry) : (s.setRoster p e).roster = s.roster.set p e := rfl
@[simp] theorem State.setRoster_cad (s : State) (p : Station) (e : RosterEntry) : (s.setRoster p e).cad = s.cad := rfl
@[simp] theorem State.setRoster_ctrl (s : State) (p : Station) (e : RosterEntry) : (s.setRoster p e).ctrl = s.ctrl := rfl
@[simp] theorem State.setRoster_log (s : State) (p : Station) (e : RosterEntry) : (s.setRoster p e).log = s.log := rfl
@[simp] theorem State.setRoster_host (s : State) (p : Station) (e : RosterEntry) : (s.setRoster p e).host = s.host := rfl

@[simp] theorem State.strayFrame_pending (s : State) : (strayFrame s).pending = s.pending := rfl
@[simp] theorem State.strayFrame_wire (s : State) : (strayFrame s).wire = s.wire := rfl
@[simp] theorem State.strayFrame_inReset (s : State) : (strayFrame s).inReset = s.inReset := rfl
@[simp] theorem State.strayFrame_sinceTick (s : State) : (strayFrame s).sinceTick = s.sinceTick := rfl
@[simp] theorem State.strayFrame_front (s : State) : (strayFrame s).front = s.front := rfl
@[simp] theorem State.strayFrame_chans (s : State) : (strayFrame s).chans = s.chans := rfl
@[simp] theorem State.strayFrame_tracker (s : State) : (strayFrame s).tracker = s.tracker := rfl
@[simp] theorem State.strayFrame_table (s : State) : (strayFrame s).table = { s.table with stray := satInc s.table.stray } := rfl
@[simp] theorem State.strayFrame_queue (s : State) : (strayFrame s).queue = s.queue := rfl
@[simp] theorem State.strayFrame_link (s : State) : (strayFrame s).link = s.link := rfl
@[simp] theorem State.strayFrame_roster (s : State) : (strayFrame s).roster = s.roster := rfl
@[simp] theorem State.strayFrame_cad (s : State) : (strayFrame s).cad = s.cad := rfl
@[simp] theorem State.strayFrame_ctrl (s : State) : (strayFrame s).ctrl = s.ctrl := rfl
@[simp] theorem State.strayFrame_log (s : State) : (strayFrame s).log = s.log := rfl
@[simp] theorem State.strayFrame_host (s : State) : (strayFrame s).host = s.host := rfl

@[simp] theorem State.setResult_pending (s : State) (r : Result) : (setResult r s).pending = s.pending := rfl
@[simp] theorem State.setResult_wire (s : State) (r : Result) : (setResult r s).wire = s.wire := rfl
@[simp] theorem State.setResult_inReset (s : State) (r : Result) : (setResult r s).inReset = s.inReset := rfl
@[simp] theorem State.setResult_sinceTick (s : State) (r : Result) : (setResult r s).sinceTick = s.sinceTick := rfl
@[simp] theorem State.setResult_front (s : State) (r : Result) : (setResult r s).front = s.front := rfl
@[simp] theorem State.setResult_chans (s : State) (r : Result) : (setResult r s).chans = s.chans := rfl
@[simp] theorem State.setResult_tracker (s : State) (r : Result) : (setResult r s).tracker = s.tracker := rfl
@[simp] theorem State.setResult_table (s : State) (r : Result) : (setResult r s).table = s.table := rfl
@[simp] theorem State.setResult_queue (s : State) (r : Result) : (setResult r s).queue = s.queue := rfl
@[simp] theorem State.setResult_link (s : State) (r : Result) : (setResult r s).link = s.link := rfl
@[simp] theorem State.setResult_roster (s : State) (r : Result) : (setResult r s).roster = s.roster := rfl
@[simp] theorem State.setResult_cad (s : State) (r : Result) : (setResult r s).cad = s.cad := rfl
@[simp] theorem State.setResult_ctrl (s : State) (r : Result) : (setResult r s).ctrl = s.ctrl := rfl
@[simp] theorem State.setResult_log (s : State) (r : Result) : (setResult r s).log = s.log := rfl
@[simp] theorem State.setResult_host (s : State) (r : Result) : (setResult r s).host = { s.host with result := r } := rfl

@[simp] theorem State.unhush_pending (s : State) : (unhush s).pending = s.pending := rfl
@[simp] theorem State.unhush_wire (s : State) : (unhush s).wire = s.wire := rfl
@[simp] theorem State.unhush_inReset (s : State) : (unhush s).inReset = s.inReset := rfl
@[simp] theorem State.unhush_sinceTick (s : State) : (unhush s).sinceTick = s.sinceTick := rfl
@[simp] theorem State.unhush_front (s : State) : (unhush s).front = s.front := rfl
@[simp] theorem State.unhush_chans (s : State) : (unhush s).chans = s.chans := rfl
@[simp] theorem State.unhush_tracker (s : State) : (unhush s).tracker = { s.tracker with hushed := false, settle := none } := rfl
@[simp] theorem State.unhush_table (s : State) : (unhush s).table = s.table := rfl
@[simp] theorem State.unhush_queue (s : State) : (unhush s).queue = s.queue := rfl
@[simp] theorem State.unhush_link (s : State) : (unhush s).link = s.link := rfl
@[simp] theorem State.unhush_roster (s : State) : (unhush s).roster = s.roster := rfl
@[simp] theorem State.unhush_cad (s : State) : (unhush s).cad = s.cad := rfl
@[simp] theorem State.unhush_ctrl (s : State) : (unhush s).ctrl = s.ctrl := rfl
@[simp] theorem State.unhush_log (s : State) : (unhush s).log = s.log := rfl
@[simp] theorem State.unhush_host (s : State) : (unhush s).host = s.host := rfl

@[simp] theorem State.clearRoster_pending (s : State) : (clearRoster s).pending = s.pending := rfl
@[simp] theorem State.clearRoster_wire (s : State) : (clearRoster s).wire = s.wire := rfl
@[simp] theorem State.clearRoster_inReset (s : State) : (clearRoster s).inReset = s.inReset := rfl
@[simp] theorem State.clearRoster_sinceTick (s : State) : (clearRoster s).sinceTick = s.sinceTick := rfl
@[simp] theorem State.clearRoster_front (s : State) : (clearRoster s).front = s.front := rfl
@[simp] theorem State.clearRoster_chans (s : State) : (clearRoster s).chans = s.chans := rfl
@[simp] theorem State.clearRoster_tracker (s : State) : (clearRoster s).tracker = s.tracker := rfl
@[simp] theorem State.clearRoster_table (s : State) : (clearRoster s).table = s.table := rfl
@[simp] theorem State.clearRoster_queue (s : State) : (clearRoster s).queue = s.queue := rfl
@[simp] theorem State.clearRoster_link (s : State) : (clearRoster s).link = s.link := rfl
@[simp] theorem State.clearRoster_roster (s : State) : (clearRoster s).roster = Vector.replicate 16 absentEntry := rfl
@[simp] theorem State.clearRoster_cad (s : State) : (clearRoster s).cad = s.cad := rfl
@[simp] theorem State.clearRoster_ctrl (s : State) : (clearRoster s).ctrl = s.ctrl := rfl
@[simp] theorem State.clearRoster_log (s : State) : (clearRoster s).log = s.log := rfl
@[simp] theorem State.clearRoster_host (s : State) : (clearRoster s).host = s.host := rfl

@[simp] theorem State.emptyTheQueue_pending (s : State) : (emptyTheQueue s).pending = s.pending := rfl
@[simp] theorem State.emptyTheQueue_wire (s : State) : (emptyTheQueue s).wire = s.wire := rfl
@[simp] theorem State.emptyTheQueue_inReset (s : State) : (emptyTheQueue s).inReset = s.inReset := rfl
@[simp] theorem State.emptyTheQueue_sinceTick (s : State) : (emptyTheQueue s).sinceTick = s.sinceTick := rfl
@[simp] theorem State.emptyTheQueue_front (s : State) : (emptyTheQueue s).front = s.front := rfl
@[simp] theorem State.emptyTheQueue_chans (s : State) : (emptyTheQueue s).chans = s.chans := rfl
@[simp] theorem State.emptyTheQueue_tracker (s : State) : (emptyTheQueue s).tracker = s.tracker := rfl
@[simp] theorem State.emptyTheQueue_table (s : State) : (emptyTheQueue s).table = s.table := rfl
@[simp] theorem State.emptyTheQueue_queue (s : State) : (emptyTheQueue s).queue = emptyQueue := rfl
@[simp] theorem State.emptyTheQueue_link (s : State) : (emptyTheQueue s).link = s.link := rfl
@[simp] theorem State.emptyTheQueue_roster (s : State) : (emptyTheQueue s).roster = s.roster := rfl
@[simp] theorem State.emptyTheQueue_cad (s : State) : (emptyTheQueue s).cad = s.cad := rfl
@[simp] theorem State.emptyTheQueue_ctrl (s : State) : (emptyTheQueue s).ctrl = s.ctrl := rfl
@[simp] theorem State.emptyTheQueue_log (s : State) : (emptyTheQueue s).log = s.log := rfl
@[simp] theorem State.emptyTheQueue_host (s : State) : (emptyTheQueue s).host = s.host := rfl

@[simp] theorem State.stopReceiver_pending (s : State) : (stopReceiver s).pending = s.pending := rfl
@[simp] theorem State.stopReceiver_wire (s : State) : (stopReceiver s).wire = s.wire := rfl
@[simp] theorem State.stopReceiver_inReset (s : State) : (stopReceiver s).inReset = s.inReset := rfl
@[simp] theorem State.stopReceiver_sinceTick (s : State) : (stopReceiver s).sinceTick = s.sinceTick := rfl
@[simp] theorem State.stopReceiver_front (s : State) : (stopReceiver s).front = s.front := rfl
@[simp] theorem State.stopReceiver_chans (s : State) : (stopReceiver s).chans = s.chans := rfl
@[simp] theorem State.stopReceiver_tracker (s : State) : (stopReceiver s).tracker = s.tracker := rfl
@[simp] theorem State.stopReceiver_table (s : State) : (stopReceiver s).table = s.table := rfl
@[simp] theorem State.stopReceiver_queue (s : State) : (stopReceiver s).queue = s.queue := rfl
@[simp] theorem State.stopReceiver_link (s : State) : (stopReceiver s).link = { s.link with line := .stopped, attempt := none, linkLow := false } := rfl
@[simp] theorem State.stopReceiver_roster (s : State) : (stopReceiver s).roster = s.roster := rfl
@[simp] theorem State.stopReceiver_cad (s : State) : (stopReceiver s).cad = s.cad := rfl
@[simp] theorem State.stopReceiver_ctrl (s : State) : (stopReceiver s).ctrl = s.ctrl := rfl
@[simp] theorem State.stopReceiver_log (s : State) : (stopReceiver s).log = s.log := rfl
@[simp] theorem State.stopReceiver_host (s : State) : (stopReceiver s).host = s.host := rfl

@[simp] theorem State.clearFailureRun_pending (s : State) : (clearFailureRun s).pending = s.pending := rfl
@[simp] theorem State.clearFailureRun_wire (s : State) : (clearFailureRun s).wire = s.wire := rfl
@[simp] theorem State.clearFailureRun_inReset (s : State) : (clearFailureRun s).inReset = s.inReset := rfl
@[simp] theorem State.clearFailureRun_sinceTick (s : State) : (clearFailureRun s).sinceTick = s.sinceTick := rfl
@[simp] theorem State.clearFailureRun_front (s : State) : (clearFailureRun s).front = s.front := rfl
@[simp] theorem State.clearFailureRun_chans (s : State) : (clearFailureRun s).chans = s.chans := rfl
@[simp] theorem State.clearFailureRun_tracker (s : State) : (clearFailureRun s).tracker = s.tracker := rfl
@[simp] theorem State.clearFailureRun_table (s : State) : (clearFailureRun s).table = s.table := rfl
@[simp] theorem State.clearFailureRun_queue (s : State) : (clearFailureRun s).queue = s.queue := rfl
@[simp] theorem State.clearFailureRun_link (s : State) : (clearFailureRun s).link = { s.link with consecutive := 0 } := rfl
@[simp] theorem State.clearFailureRun_roster (s : State) : (clearFailureRun s).roster = s.roster := rfl
@[simp] theorem State.clearFailureRun_cad (s : State) : (clearFailureRun s).cad = s.cad := rfl
@[simp] theorem State.clearFailureRun_ctrl (s : State) : (clearFailureRun s).ctrl = s.ctrl := rfl
@[simp] theorem State.clearFailureRun_log (s : State) : (clearFailureRun s).log = s.log := rfl
@[simp] theorem State.clearFailureRun_host (s : State) : (clearFailureRun s).host = s.host := rfl

@[simp] theorem State.afterFrame_pending (s : State) : (afterFrame s).pending = s.pending := rfl
@[simp] theorem State.afterFrame_wire (s : State) : (afterFrame s).wire = s.wire := rfl
@[simp] theorem State.afterFrame_inReset (s : State) : (afterFrame s).inReset = s.inReset := rfl
@[simp] theorem State.afterFrame_sinceTick (s : State) : (afterFrame s).sinceTick = s.sinceTick := rfl
@[simp] theorem State.afterFrame_front (s : State) : (afterFrame s).front = s.front := rfl
@[simp] theorem State.afterFrame_chans (s : State) : (afterFrame s).chans = s.chans := rfl
@[simp] theorem State.afterFrame_tracker (s : State) : (afterFrame s).tracker = s.tracker := rfl
@[simp] theorem State.afterFrame_table (s : State) : (afterFrame s).table = s.table := rfl
@[simp] theorem State.afterFrame_queue (s : State) : (afterFrame s).queue = s.queue := rfl
@[simp] theorem State.afterFrame_link (s : State) : (afterFrame s).link = { s.link with line := .seeking 7 } := rfl
@[simp] theorem State.afterFrame_roster (s : State) : (afterFrame s).roster = s.roster := rfl
@[simp] theorem State.afterFrame_cad (s : State) : (afterFrame s).cad = s.cad := rfl
@[simp] theorem State.afterFrame_ctrl (s : State) : (afterFrame s).ctrl = s.ctrl := rfl
@[simp] theorem State.afterFrame_log (s : State) : (afterFrame s).log = s.log := rfl
@[simp] theorem State.afterFrame_host (s : State) : (afterFrame s).host = s.host := rfl

end Sys2Proof.Machine
end

