-- ==== Sys2Proof/Laws/Frames.lean ====
section
/-! SUPPORT. The frame of each shared operation: the fields it leaves as they were, all in one lemma, so
that no later proof unfolds the operation to see what it does not touch. -/

namespace Sys2Proof.Machine

/-- A fold of steps that each keep a field keeps it. -/
theorem foldl_keeps {α β : Type} (field : State → β) (f : State → α → State)
    (h : ∀ s a, field (f s a) = field s) (l : List α) (s : State) :
    field (l.foldl f s) = field s := by
  induction l generalizing s with
  | nil => rfl
  | cons a l ih => rw [List.foldl_cons, ih, h]

@[simp] theorem requestPulse_keeps (s : State) (routine : Bool) :
    (s.requestPulse routine).pending = s.pending ∧ (s.requestPulse routine).wire = s.wire ∧
    (s.requestPulse routine).inReset = s.inReset ∧
    (s.requestPulse routine).sinceTick = s.sinceTick ∧ (s.requestPulse routine).front = s.front ∧
    (s.requestPulse routine).chans = s.chans ∧ (s.requestPulse routine).tracker = s.tracker ∧
    (s.requestPulse routine).table = s.table ∧ (s.requestPulse routine).link = s.link ∧
    (s.requestPulse routine).roster = s.roster ∧ (s.requestPulse routine).cad = s.cad ∧
    (s.requestPulse routine).ctrl = s.ctrl ∧ (s.requestPulse routine).log = s.log ∧
    (s.requestPulse routine).host = s.host := by
  unfold State.requestPulse
  (repeat' split) <;> simp

@[simp] theorem requestConfirm_keeps (s : State) (g : Group) (c : Channel) :
    (s.requestConfirm g c).pending = s.pending ∧ (s.requestConfirm g c).wire = s.wire ∧
    (s.requestConfirm g c).inReset = s.inReset ∧ (s.requestConfirm g c).sinceTick = s.sinceTick ∧
    (s.requestConfirm g c).front = s.front ∧ (s.requestConfirm g c).chans = s.chans ∧
    (s.requestConfirm g c).tracker = s.tracker ∧ (s.requestConfirm g c).table = s.table ∧
    (s.requestConfirm g c).link = s.link ∧ (s.requestConfirm g c).roster = s.roster ∧
    (s.requestConfirm g c).cad = s.cad ∧ (s.requestConfirm g c).ctrl = s.ctrl ∧
    (s.requestConfirm g c).log = s.log ∧ (s.requestConfirm g c).host = s.host := by
  unfold State.requestConfirm
  (repeat' split) <;> simp

@[simp] theorem requestRelease_keeps (s : State) (g : Group) (c : Channel) (reason : Reason) :
    (s.requestRelease g c reason).pending = s.pending ∧
    (s.requestRelease g c reason).wire = s.wire ∧
    (s.requestRelease g c reason).inReset = s.inReset ∧
    (s.requestRelease g c reason).sinceTick = s.sinceTick ∧
    (s.requestRelease g c reason).front = s.front ∧
    (s.requestRelease g c reason).chans = s.chans ∧
    (s.requestRelease g c reason).tracker = s.tracker ∧
    (s.requestRelease g c reason).table = s.table ∧ (s.requestRelease g c reason).link = s.link ∧
    (s.requestRelease g c reason).roster = s.roster ∧ (s.requestRelease g c reason).cad = s.cad ∧
    (s.requestRelease g c reason).ctrl = s.ctrl ∧ (s.requestRelease g c reason).log = s.log ∧
    (s.requestRelease g c reason).host = s.host := by
  unfold State.requestRelease
  (repeat' split) <;> simp

@[simp] theorem changeCadence_keeps (s : State) (d : Cadence) :
    (changeCadence d s).pending = s.pending ∧ (changeCadence d s).wire = s.wire ∧
    (changeCadence d s).inReset = s.inReset ∧ (changeCadence d s).sinceTick = s.sinceTick ∧
    (changeCadence d s).front = s.front ∧ (changeCadence d s).chans = s.chans ∧
    (changeCadence d s).tracker = s.tracker ∧ (changeCadence d s).table = s.table ∧
    (changeCadence d s).link = s.link ∧ (changeCadence d s).roster = s.roster ∧
    (changeCadence d s).ctrl = s.ctrl ∧ (changeCadence d s).host = s.host := by
  simp [changeCadence]

@[simp] theorem stir_keeps (s : State) (b : Bool) :
    (stir b s).pending = s.pending ∧ (stir b s).wire = s.wire ∧ (stir b s).inReset = s.inReset ∧
    (stir b s).sinceTick = s.sinceTick ∧ (stir b s).front = s.front ∧
    (stir b s).chans = s.chans ∧ (stir b s).tracker = s.tracker ∧ (stir b s).table = s.table ∧
    (stir b s).queue = s.queue ∧ (stir b s).link = s.link ∧ (stir b s).roster = s.roster ∧
    (stir b s).ctrl = s.ctrl ∧ (stir b s).log = s.log ∧ (stir b s).host = s.host := by
  simp [stir]

@[simp] theorem activity_keeps (s : State) (b : Bool) :
    (activity b s).pending = s.pending ∧ (activity b s).wire = s.wire ∧
    (activity b s).inReset = s.inReset ∧ (activity b s).sinceTick = s.sinceTick ∧
    (activity b s).front = s.front ∧ (activity b s).chans = s.chans ∧
    (activity b s).tracker = s.tracker ∧ (activity b s).table = s.table ∧
    (activity b s).link = s.link ∧ (activity b s).roster = s.roster ∧
    (activity b s).ctrl = s.ctrl ∧ (activity b s).host = s.host := by
  unfold activity
  (repeat' split) <;> simp

@[simp] theorem reportTable_keeps (s : State) :
    (reportTable s).pending = s.pending ∧ (reportTable s).wire = s.wire ∧
    (reportTable s).inReset = s.inReset ∧ (reportTable s).sinceTick = s.sinceTick ∧
    (reportTable s).front = s.front ∧ (reportTable s).chans = s.chans ∧
    (reportTable s).tracker = s.tracker ∧ (reportTable s).table = s.table ∧
    (reportTable s).queue = s.queue ∧ (reportTable s).link = s.link ∧
    (reportTable s).roster = s.roster ∧ (reportTable s).ctrl = s.ctrl ∧
    (reportTable s).log = s.log ∧ (reportTable s).host = s.host := by
  unfold reportTable
  (repeat' split) <;> simp

@[simp] theorem stopContest_keeps (s : State) (g : Group) (c : Channel) :
    (stopContest g c s).pending = s.pending ∧ (stopContest g c s).wire = s.wire ∧
    (stopContest g c s).inReset = s.inReset ∧ (stopContest g c s).sinceTick = s.sinceTick ∧
    (stopContest g c s).front = s.front ∧ (stopContest g c s).chans = s.chans ∧
    (stopContest g c s).tracker = s.tracker ∧ (stopContest g c s).queue = s.queue ∧
    (stopContest g c s).link = s.link ∧ (stopContest g c s).roster = s.roster ∧
    (stopContest g c s).cad = s.cad ∧ (stopContest g c s).ctrl = s.ctrl ∧
    (stopContest g c s).log = s.log ∧ (stopContest g c s).host = s.host := by
  unfold stopContest
  (repeat' split) <;> simp

@[simp] theorem leaveClaimSide_keeps (s : State) (reason : Reason) (c : Channel) :
    (leaveClaimSide reason c s).pending = s.pending ∧ (leaveClaimSide reason c s).wire = s.wire ∧
    (leaveClaimSide reason c s).inReset = s.inReset ∧
    (leaveClaimSide reason c s).sinceTick = s.sinceTick ∧
    (leaveClaimSide reason c s).front = s.front ∧ (leaveClaimSide reason c s).chans = s.chans ∧
    (leaveClaimSide reason c s).tracker = s.tracker ∧ (leaveClaimSide reason c s).link = s.link ∧
    (leaveClaimSide reason c s).roster = s.roster ∧ (leaveClaimSide reason c s).cad = s.cad ∧
    (leaveClaimSide reason c s).ctrl = s.ctrl ∧ (leaveClaimSide reason c s).log = s.log ∧
    (leaveClaimSide reason c s).host = s.host := by
  refine ⟨?_, ?_, ?_, ?_, ?_, ?_, ?_, ?_, ?_, ?_, ?_, ?_, ?_⟩ <;>
    (unfold leaveClaimSide; (try dsimp only); (repeat' split) <;> simp)

@[simp] theorem evaluate_keeps (s : State) (which : Group → Bool) :
    (evaluate which s).pending = s.pending ∧ (evaluate which s).wire = s.wire ∧
    (evaluate which s).inReset = s.inReset ∧ (evaluate which s).sinceTick = s.sinceTick ∧
    (evaluate which s).front = s.front ∧ (evaluate which s).tracker = s.tracker ∧
    (evaluate which s).table = s.table ∧ (evaluate which s).link = s.link ∧
    (evaluate which s).roster = s.roster ∧ (evaluate which s).cad = s.cad ∧
    (evaluate which s).ctrl = s.ctrl ∧ (evaluate which s).log = s.log ∧
    (evaluate which s).host = s.host := by
  unfold evaluate
  (repeat' split) <;> simp

@[simp] theorem confirmAgain_keeps (s : State) (g : Group) :
    (confirmAgain g s).pending = s.pending ∧ (confirmAgain g s).wire = s.wire ∧
    (confirmAgain g s).inReset = s.inReset ∧ (confirmAgain g s).sinceTick = s.sinceTick ∧
    (confirmAgain g s).front = s.front ∧ (confirmAgain g s).chans = s.chans ∧
    (confirmAgain g s).tracker = s.tracker ∧ (confirmAgain g s).table = s.table ∧
    (confirmAgain g s).link = s.link ∧ (confirmAgain g s).roster = s.roster ∧
    (confirmAgain g s).cad = s.cad ∧ (confirmAgain g s).ctrl = s.ctrl ∧
    (confirmAgain g s).log = s.log ∧ (confirmAgain g s).host = s.host := by
  unfold confirmAgain
  (repeat' split) <;> simp

@[simp] theorem attemptEndHandled_keeps (s : State) (slot : TxSlot) :
    (attemptEndHandled slot s).pending = s.pending ∧ (attemptEndHandled slot s).wire = s.wire ∧
    (attemptEndHandled slot s).inReset = s.inReset ∧
    (attemptEndHandled slot s).sinceTick = s.sinceTick ∧
    (attemptEndHandled slot s).front = s.front ∧ (attemptEndHandled slot s).tracker = s.tracker ∧
    (attemptEndHandled slot s).table = s.table ∧ (attemptEndHandled slot s).link = s.link ∧
    (attemptEndHandled slot s).roster = s.roster ∧ (attemptEndHandled slot s).cad = s.cad ∧
    (attemptEndHandled slot s).ctrl = s.ctrl ∧ (attemptEndHandled slot s).log = s.log ∧
    (attemptEndHandled slot s).host = s.host := by
  unfold attemptEndHandled
  (repeat' split) <;> simp

@[simp] theorem handOnChanges_keeps (s : State) (old : Vector Entry 8) :
    (handOnChanges old s).pending = s.pending ∧ (handOnChanges old s).wire = s.wire ∧
    (handOnChanges old s).inReset = s.inReset ∧ (handOnChanges old s).sinceTick = s.sinceTick ∧
    (handOnChanges old s).front = s.front ∧ (handOnChanges old s).tracker = s.tracker ∧
    (handOnChanges old s).table = s.table ∧ (handOnChanges old s).link = s.link ∧
    (handOnChanges old s).roster = s.roster ∧ (handOnChanges old s).ctrl = s.ctrl ∧
    (handOnChanges old s).log = s.log ∧ (handOnChanges old s).host = s.host := by
  unfold handOnChanges
  (repeat' split) <;> simp

@[simp] theorem loseContest_keeps (s : State) (c : Channel) :
    (loseContest c s).pending = s.pending ∧ (loseContest c s).wire = s.wire ∧
    (loseContest c s).inReset = s.inReset ∧ (loseContest c s).sinceTick = s.sinceTick ∧
    (loseContest c s).front = s.front ∧ (loseContest c s).tracker = s.tracker ∧
    (loseContest c s).table = s.table ∧ (loseContest c s).queue = s.queue ∧
    (loseContest c s).link = s.link ∧ (loseContest c s).roster = s.roster ∧
    (loseContest c s).cad = s.cad ∧ (loseContest c s).ctrl = s.ctrl ∧
    (loseContest c s).log = s.log ∧ (loseContest c s).host = s.host := by
  unfold loseContest
  (repeat' split) <;> simp

@[simp] theorem holderLoses_keeps (s : State) (g : Group) (h : Holder) :
    (holderLoses g h s).pending = s.pending ∧ (holderLoses g h s).wire = s.wire ∧
    (holderLoses g h s).inReset = s.inReset ∧ (holderLoses g h s).sinceTick = s.sinceTick ∧
    (holderLoses g h s).front = s.front ∧ (holderLoses g h s).tracker = s.tracker ∧
    (holderLoses g h s).table = s.table ∧ (holderLoses g h s).link = s.link ∧
    (holderLoses g h s).roster = s.roster ∧ (holderLoses g h s).cad = s.cad ∧
    (holderLoses g h s).ctrl = s.ctrl ∧ (holderLoses g h s).log = s.log ∧
    (holderLoses g h s).host = s.host := by
  unfold holderLoses
  (repeat' split) <;> simp

@[simp] theorem claimTakes_keeps (s : State) (g : Group) (h : Holder) (n : Nat) :
    (claimTakes g h n s).pending = s.pending ∧ (claimTakes g h n s).wire = s.wire ∧
    (claimTakes g h n s).inReset = s.inReset ∧ (claimTakes g h n s).sinceTick = s.sinceTick ∧
    (claimTakes g h n s).front = s.front ∧ (claimTakes g h n s).tracker = s.tracker ∧
    (claimTakes g h n s).queue = s.queue ∧ (claimTakes g h n s).link = s.link ∧
    (claimTakes g h n s).roster = s.roster ∧ (claimTakes g h n s).cad = s.cad ∧
    (claimTakes g h n s).ctrl = s.ctrl ∧ (claimTakes g h n s).log = s.log ∧
    (claimTakes g h n s).host = s.host := by
  unfold claimTakes
  (repeat' split) <;> simp

@[simp] theorem claimRefused_keeps (s : State) (h : Holder) :
    (claimRefused h s).pending = s.pending ∧ (claimRefused h s).wire = s.wire ∧
    (claimRefused h s).inReset = s.inReset ∧ (claimRefused h s).sinceTick = s.sinceTick ∧
    (claimRefused h s).front = s.front ∧ (claimRefused h s).tracker = s.tracker ∧
    (claimRefused h s).table = s.table ∧ (claimRefused h s).queue = s.queue ∧
    (claimRefused h s).link = s.link ∧ (claimRefused h s).roster = s.roster ∧
    (claimRefused h s).cad = s.cad ∧ (claimRefused h s).ctrl = s.ctrl ∧
    (claimRefused h s).log = s.log ∧ (claimRefused h s).host = s.host := by
  unfold claimRefused
  (repeat' split) <;> simp

@[simp] theorem claimHeard_keeps (s : State) (h : Holder) (g : Group) (n : Nat) :
    (claimHeard h g n s).pending = s.pending ∧ (claimHeard h g n s).wire = s.wire ∧
    (claimHeard h g n s).inReset = s.inReset ∧ (claimHeard h g n s).sinceTick = s.sinceTick ∧
    (claimHeard h g n s).front = s.front ∧ (claimHeard h g n s).tracker = s.tracker ∧
    (claimHeard h g n s).link = s.link ∧ (claimHeard h g n s).roster = s.roster ∧
    (claimHeard h g n s).cad = s.cad ∧ (claimHeard h g n s).ctrl = s.ctrl ∧
    (claimHeard h g n s).log = s.log ∧ (claimHeard h g n s).host = s.host := by
  unfold claimHeard
  (repeat' split) <;> simp

@[simp] theorem press_keeps (s : State) (h : Holder) :
    (press h s).pending = s.pending ∧ (press h s).wire = s.wire ∧
    (press h s).inReset = s.inReset ∧ (press h s).sinceTick = s.sinceTick ∧
    (press h s).front = s.front ∧ (press h s).tracker = s.tracker ∧ (press h s).table = s.table ∧
    (press h s).queue = s.queue ∧ (press h s).link = s.link ∧ (press h s).roster = s.roster ∧
    (press h s).cad = s.cad ∧ (press h s).ctrl = s.ctrl ∧ (press h s).log = s.log ∧
    (press h s).host = s.host := by
  unfold press
  (repeat' split) <;> simp

@[simp] theorem confirmHeard_keeps (s : State) (h : Holder) (g : Group) :
    (confirmHeard h g s).pending = s.pending ∧ (confirmHeard h g s).wire = s.wire ∧
    (confirmHeard h g s).inReset = s.inReset ∧ (confirmHeard h g s).sinceTick = s.sinceTick ∧
    (confirmHeard h g s).front = s.front ∧ (confirmHeard h g s).tracker = s.tracker ∧
    (confirmHeard h g s).queue = s.queue ∧ (confirmHeard h g s).link = s.link ∧
    (confirmHeard h g s).roster = s.roster ∧ (confirmHeard h g s).cad = s.cad ∧
    (confirmHeard h g s).ctrl = s.ctrl ∧ (confirmHeard h g s).host = s.host := by
  unfold confirmHeard
  (repeat' split) <;> simp

@[simp] theorem releaseHeard_keeps (s : State) (h : Holder) (g : Group) (reason : Reason) :
    (releaseHeard h g reason s).pending = s.pending ∧ (releaseHeard h g reason s).wire = s.wire ∧
    (releaseHeard h g reason s).inReset = s.inReset ∧
    (releaseHeard h g reason s).sinceTick = s.sinceTick ∧
    (releaseHeard h g reason s).front = s.front ∧ (releaseHeard h g reason s).chans = s.chans ∧
    (releaseHeard h g reason s).tracker = s.tracker ∧
    (releaseHeard h g reason s).queue = s.queue ∧ (releaseHeard h g reason s).link = s.link ∧
    (releaseHeard h g reason s).roster = s.roster ∧ (releaseHeard h g reason s).cad = s.cad ∧
    (releaseHeard h g reason s).ctrl = s.ctrl ∧ (releaseHeard h g reason s).host = s.host := by
  unfold releaseHeard
  (repeat' split) <;> simp

@[simp] theorem emptyTable_keeps (s : State) (which : Holder → Bool) (reason : UpReason) :
    (emptyTable which reason s).pending = s.pending ∧ (emptyTable which reason s).wire = s.wire ∧
    (emptyTable which reason s).inReset = s.inReset ∧
    (emptyTable which reason s).sinceTick = s.sinceTick ∧
    (emptyTable which reason s).front = s.front ∧ (emptyTable which reason s).chans = s.chans ∧
    (emptyTable which reason s).tracker = s.tracker ∧
    (emptyTable which reason s).queue = s.queue ∧ (emptyTable which reason s).link = s.link ∧
    (emptyTable which reason s).roster = s.roster ∧ (emptyTable which reason s).cad = s.cad ∧
    (emptyTable which reason s).ctrl = s.ctrl ∧ (emptyTable which reason s).host = s.host := by
  simp [emptyTable]

@[simp] theorem clearTable_keeps (s : State) :
    (clearTable s).pending = s.pending ∧ (clearTable s).wire = s.wire ∧
    (clearTable s).inReset = s.inReset ∧ (clearTable s).sinceTick = s.sinceTick ∧
    (clearTable s).front = s.front ∧ (clearTable s).chans = s.chans ∧
    (clearTable s).tracker = s.tracker ∧ (clearTable s).queue = s.queue ∧
    (clearTable s).link = s.link ∧ (clearTable s).roster = s.roster ∧
    (clearTable s).cad = s.cad ∧ (clearTable s).ctrl = s.ctrl ∧ (clearTable s).host = s.host := by
  simp [clearTable]

@[simp] theorem freePeer_keeps (s : State) (p : Station) (reason : UpReason) :
    (freePeer p reason s).pending = s.pending ∧ (freePeer p reason s).wire = s.wire ∧
    (freePeer p reason s).inReset = s.inReset ∧ (freePeer p reason s).sinceTick = s.sinceTick ∧
    (freePeer p reason s).front = s.front ∧ (freePeer p reason s).chans = s.chans ∧
    (freePeer p reason s).tracker = s.tracker ∧ (freePeer p reason s).queue = s.queue ∧
    (freePeer p reason s).link = s.link ∧ (freePeer p reason s).roster = s.roster ∧
    (freePeer p reason s).cad = s.cad ∧ (freePeer p reason s).ctrl = s.ctrl ∧
    (freePeer p reason s).host = s.host := by
  simp [freePeer]

@[simp] theorem resyncGroup_keeps (s : State) (p : Station) (l : List (Group × Channel)) (g : Group) :
    (resyncGroup p l s g).pending = s.pending ∧ (resyncGroup p l s g).wire = s.wire ∧
    (resyncGroup p l s g).inReset = s.inReset ∧ (resyncGroup p l s g).sinceTick = s.sinceTick ∧
    (resyncGroup p l s g).front = s.front ∧ (resyncGroup p l s g).tracker = s.tracker ∧
    (resyncGroup p l s g).link = s.link ∧ (resyncGroup p l s g).roster = s.roster ∧
    (resyncGroup p l s g).cad = s.cad ∧ (resyncGroup p l s g).ctrl = s.ctrl ∧
    (resyncGroup p l s g).host = s.host := by
  unfold resyncGroup
  simp only []
  split <;> (try split) <;> simp

@[simp] theorem resync_keeps (s : State) (p : Station) (l : List (Group × Channel)) :
    (resync p l s).pending = s.pending ∧ (resync p l s).wire = s.wire ∧
    (resync p l s).inReset = s.inReset ∧ (resync p l s).sinceTick = s.sinceTick ∧
    (resync p l s).front = s.front ∧ (resync p l s).tracker = s.tracker ∧
    (resync p l s).link = s.link ∧ (resync p l s).roster = s.roster ∧
    (resync p l s).cad = s.cad ∧ (resync p l s).ctrl = s.ctrl ∧ (resync p l s).host = s.host := by
  refine ⟨?_, ?_, ?_, ?_, ?_, ?_, ?_, ?_, ?_, ?_, ?_⟩ <;>
    exact foldl_keeps _ _ (fun s g => by simp) _ _

@[simp] theorem peerHeard_keeps (s : State) (p : Station) (a : Option Announced) :
    (peerHeard p a s).pending = s.pending ∧ (peerHeard p a s).wire = s.wire ∧
    (peerHeard p a s).inReset = s.inReset ∧ (peerHeard p a s).sinceTick = s.sinceTick ∧
    (peerHeard p a s).front = s.front ∧ (peerHeard p a s).chans = s.chans ∧
    (peerHeard p a s).tracker = s.tracker ∧ (peerHeard p a s).table = s.table ∧
    (peerHeard p a s).queue = s.queue ∧ (peerHeard p a s).link = s.link ∧
    (peerHeard p a s).cad = s.cad ∧ (peerHeard p a s).ctrl = s.ctrl ∧
    (peerHeard p a s).host = s.host := by
  unfold peerHeard
  (repeat' split) <;> simp

@[simp] theorem peerLeaves_keeps (s : State) (p : Station) :
    (peerLeaves p s).pending = s.pending ∧ (peerLeaves p s).wire = s.wire ∧
    (peerLeaves p s).inReset = s.inReset ∧ (peerLeaves p s).sinceTick = s.sinceTick ∧
    (peerLeaves p s).front = s.front ∧ (peerLeaves p s).chans = s.chans ∧
    (peerLeaves p s).tracker = s.tracker ∧ (peerLeaves p s).queue = s.queue ∧
    (peerLeaves p s).link = s.link ∧ (peerLeaves p s).cad = s.cad ∧
    (peerLeaves p s).ctrl = s.ctrl ∧ (peerLeaves p s).host = s.host := by
  unfold peerLeaves
  (repeat' split) <;> simp

@[simp] theorem ownPulseHeard_keeps (s : State) (f : PulseFields) :
    (ownPulseHeard f s).pending = s.pending ∧ (ownPulseHeard f s).wire = s.wire ∧
    (ownPulseHeard f s).inReset = s.inReset ∧ (ownPulseHeard f s).sinceTick = s.sinceTick ∧
    (ownPulseHeard f s).front = s.front ∧ (ownPulseHeard f s).chans = s.chans ∧
    (ownPulseHeard f s).tracker = s.tracker ∧ (ownPulseHeard f s).table = s.table ∧
    (ownPulseHeard f s).queue = s.queue ∧ (ownPulseHeard f s).link = s.link ∧
    (ownPulseHeard f s).cad = s.cad ∧ (ownPulseHeard f s).ctrl = s.ctrl ∧
    (ownPulseHeard f s).log = s.log ∧ (ownPulseHeard f s).host = s.host := by
  unfold ownPulseHeard
  (repeat' split) <;> simp

@[simp] theorem rosterHears_keeps (s : State) (f : Frame) :
    (rosterHears f s).pending = s.pending ∧ (rosterHears f s).wire = s.wire ∧
    (rosterHears f s).inReset = s.inReset ∧ (rosterHears f s).sinceTick = s.sinceTick ∧
    (rosterHears f s).front = s.front ∧ (rosterHears f s).chans = s.chans ∧
    (rosterHears f s).tracker = s.tracker ∧ (rosterHears f s).queue = s.queue ∧
    (rosterHears f s).link = s.link ∧ (rosterHears f s).cad = s.cad ∧
    (rosterHears f s).ctrl = s.ctrl ∧ (rosterHears f s).host = s.host := by
  unfold rosterHears
  (repeat' split) <;> simp

@[simp] theorem ownEntry_keeps (s : State) (b : Bool) :
    (ownEntry b s).pending = s.pending ∧ (ownEntry b s).wire = s.wire ∧
    (ownEntry b s).inReset = s.inReset ∧ (ownEntry b s).sinceTick = s.sinceTick ∧
    (ownEntry b s).front = s.front ∧ (ownEntry b s).chans = s.chans ∧
    (ownEntry b s).tracker = s.tracker ∧ (ownEntry b s).table = s.table ∧
    (ownEntry b s).queue = s.queue ∧ (ownEntry b s).link = s.link ∧ (ownEntry b s).cad = s.cad ∧
    (ownEntry b s).ctrl = s.ctrl ∧ (ownEntry b s).log = s.log ∧ (ownEntry b s).host = s.host := by
  simp [ownEntry]

@[simp] theorem beginConversion_keeps (s : State) (slot : Slot) :
    (beginConversion slot s).pending = s.pending ∧ (beginConversion slot s).wire = s.wire ∧
    (beginConversion slot s).inReset = s.inReset ∧
    (beginConversion slot s).sinceTick = s.sinceTick ∧ (beginConversion slot s).chans = s.chans ∧
    (beginConversion slot s).tracker = s.tracker ∧ (beginConversion slot s).table = s.table ∧
    (beginConversion slot s).queue = s.queue ∧ (beginConversion slot s).link = s.link ∧
    (beginConversion slot s).roster = s.roster ∧ (beginConversion slot s).cad = s.cad ∧
    (beginConversion slot s).ctrl = s.ctrl ∧ (beginConversion slot s).log = s.log ∧
    (beginConversion slot s).host = s.host := by
  simp [beginConversion]

@[simp] theorem endScan_keeps (s : State) :
    (endScan s).pending = s.pending ∧ (endScan s).wire = s.wire ∧
    (endScan s).inReset = s.inReset ∧ (endScan s).sinceTick = s.sinceTick ∧
    (endScan s).chans = s.chans ∧ (endScan s).tracker = s.tracker ∧ (endScan s).table = s.table ∧
    (endScan s).queue = s.queue ∧ (endScan s).link = s.link ∧ (endScan s).roster = s.roster ∧
    (endScan s).cad = s.cad ∧ (endScan s).ctrl = s.ctrl ∧ (endScan s).log = s.log ∧
    (endScan s).host = s.host := by
  simp [endScan]

@[simp] theorem beginScan_keeps (s : State) :
    (beginScan s).pending = s.pending ∧ (beginScan s).wire = s.wire ∧
    (beginScan s).inReset = s.inReset ∧ (beginScan s).sinceTick = s.sinceTick ∧
    (beginScan s).chans = s.chans ∧ (beginScan s).tracker = s.tracker ∧
    (beginScan s).table = s.table ∧ (beginScan s).queue = s.queue ∧ (beginScan s).link = s.link ∧
    (beginScan s).roster = s.roster ∧ (beginScan s).cad = s.cad ∧ (beginScan s).ctrl = s.ctrl ∧
    (beginScan s).log = s.log ∧ (beginScan s).host = s.host := by
  unfold beginScan
  (repeat' split) <;> simp

@[simp] theorem scanProceeds_keeps (s : State) (slot : Slot) :
    (scanProceeds slot s).pending = s.pending ∧ (scanProceeds slot s).wire = s.wire ∧
    (scanProceeds slot s).inReset = s.inReset ∧ (scanProceeds slot s).sinceTick = s.sinceTick ∧
    (scanProceeds slot s).chans = s.chans ∧ (scanProceeds slot s).tracker = s.tracker ∧
    (scanProceeds slot s).table = s.table ∧ (scanProceeds slot s).queue = s.queue ∧
    (scanProceeds slot s).link = s.link ∧ (scanProceeds slot s).roster = s.roster ∧
    (scanProceeds slot s).cad = s.cad ∧ (scanProceeds slot s).ctrl = s.ctrl ∧
    (scanProceeds slot s).log = s.log ∧ (scanProceeds slot s).host = s.host := by
  unfold scanProceeds
  (repeat' split) <;> simp

@[simp] theorem startScanning_keeps (s : State) :
    (startScanning s).pending = s.pending ∧ (startScanning s).wire = s.wire ∧
    (startScanning s).inReset = s.inReset ∧ (startScanning s).sinceTick = s.sinceTick ∧
    (startScanning s).chans = s.chans ∧ (startScanning s).tracker = s.tracker ∧
    (startScanning s).table = s.table ∧ (startScanning s).queue = s.queue ∧
    (startScanning s).link = s.link ∧ (startScanning s).roster = s.roster ∧
    (startScanning s).cad = s.cad ∧ (startScanning s).ctrl = s.ctrl ∧
    (startScanning s).log = s.log ∧ (startScanning s).host = s.host := by
  simp [startScanning]

@[simp] theorem stopScanning_keeps (s : State) :
    (stopScanning s).pending = s.pending ∧ (stopScanning s).wire = s.wire ∧
    (stopScanning s).inReset = s.inReset ∧ (stopScanning s).sinceTick = s.sinceTick ∧
    (stopScanning s).chans = s.chans ∧ (stopScanning s).tracker = s.tracker ∧
    (stopScanning s).table = s.table ∧ (stopScanning s).queue = s.queue ∧
    (stopScanning s).link = s.link ∧ (stopScanning s).roster = s.roster ∧
    (stopScanning s).cad = s.cad ∧ (stopScanning s).ctrl = s.ctrl ∧
    (stopScanning s).log = s.log ∧ (stopScanning s).host = s.host := by
  simp [stopScanning]

@[simp] theorem startTracker_keeps (s : State) :
    (startTracker s).pending = s.pending ∧ (startTracker s).wire = s.wire ∧
    (startTracker s).inReset = s.inReset ∧ (startTracker s).sinceTick = s.sinceTick ∧
    (startTracker s).front = s.front ∧ (startTracker s).table = s.table ∧
    (startTracker s).queue = s.queue ∧ (startTracker s).link = s.link ∧
    (startTracker s).roster = s.roster ∧ (startTracker s).cad = s.cad ∧
    (startTracker s).ctrl = s.ctrl ∧ (startTracker s).log = s.log ∧
    (startTracker s).host = s.host := by
  simp [startTracker]

@[simp] theorem stopTracker_keeps (s : State) :
    (stopTracker s).pending = s.pending ∧ (stopTracker s).wire = s.wire ∧
    (stopTracker s).inReset = s.inReset ∧ (stopTracker s).sinceTick = s.sinceTick ∧
    (stopTracker s).front = s.front ∧ (stopTracker s).table = s.table ∧
    (stopTracker s).queue = s.queue ∧ (stopTracker s).link = s.link ∧
    (stopTracker s).roster = s.roster ∧ (stopTracker s).cad = s.cad ∧
    (stopTracker s).ctrl = s.ctrl ∧ (stopTracker s).log = s.log ∧
    (stopTracker s).host = s.host := by
  simp [stopTracker]

@[simp] theorem keysToIdle_keeps (s : State) :
    (keysToIdle s).pending = s.pending ∧ (keysToIdle s).wire = s.wire ∧
    (keysToIdle s).inReset = s.inReset ∧ (keysToIdle s).sinceTick = s.sinceTick ∧
    (keysToIdle s).front = s.front ∧ (keysToIdle s).tracker = s.tracker ∧
    (keysToIdle s).table = s.table ∧ (keysToIdle s).queue = s.queue ∧
    (keysToIdle s).link = s.link ∧ (keysToIdle s).roster = s.roster ∧
    (keysToIdle s).cad = s.cad ∧ (keysToIdle s).ctrl = s.ctrl ∧ (keysToIdle s).log = s.log ∧
    (keysToIdle s).host = s.host := by
  simp [keysToIdle]

@[simp] theorem setStation_keeps (s : State) (st : StationState) :
    (setStation st s).pending = s.pending ∧ (setStation st s).wire = s.wire ∧
    (setStation st s).inReset = s.inReset ∧ (setStation st s).sinceTick = s.sinceTick ∧
    (setStation st s).front = s.front ∧ (setStation st s).chans = s.chans ∧
    (setStation st s).tracker = s.tracker ∧ (setStation st s).table = s.table ∧
    (setStation st s).queue = s.queue ∧ (setStation st s).link = s.link ∧
    (setStation st s).roster = s.roster ∧ (setStation st s).cad = s.cad ∧
    (setStation st s).log = s.log ∧ (setStation st s).host = s.host := by
  unfold setStation
  (repeat' split) <;> simp

@[simp] theorem logStation_keeps (s : State) (st : StationState) :
    (logStation st s).pending = s.pending ∧ (logStation st s).wire = s.wire ∧
    (logStation st s).inReset = s.inReset ∧ (logStation st s).sinceTick = s.sinceTick ∧
    (logStation st s).front = s.front ∧ (logStation st s).chans = s.chans ∧
    (logStation st s).tracker = s.tracker ∧ (logStation st s).table = s.table ∧
    (logStation st s).queue = s.queue ∧ (logStation st s).link = s.link ∧
    (logStation st s).roster = s.roster ∧ (logStation st s).cad = s.cad ∧
    (logStation st s).ctrl = s.ctrl ∧ (logStation st s).host = s.host := by
  simp [logStation]

@[simp] theorem enterListen_keeps (s : State) :
    (enterListen s).pending = s.pending ∧ (enterListen s).wire = s.wire ∧
    (enterListen s).inReset = s.inReset ∧ (enterListen s).sinceTick = s.sinceTick ∧
    (enterListen s).front = s.front ∧ (enterListen s).chans = s.chans ∧
    (enterListen s).tracker = s.tracker ∧ (enterListen s).table = s.table ∧
    (enterListen s).queue = s.queue ∧ (enterListen s).roster = s.roster ∧
    (enterListen s).cad = s.cad ∧ (enterListen s).host = s.host := by
  unfold enterListen
  (repeat' split) <;> simp

@[simp] theorem seedingReport_keeps (s : State) :
    (seedingReport s).pending = s.pending ∧ (seedingReport s).wire = s.wire ∧
    (seedingReport s).inReset = s.inReset ∧ (seedingReport s).sinceTick = s.sinceTick ∧
    (seedingReport s).front = s.front ∧ (seedingReport s).chans = s.chans ∧
    (seedingReport s).tracker = s.tracker ∧ (seedingReport s).table = s.table ∧
    (seedingReport s).queue = s.queue ∧ (seedingReport s).roster = s.roster ∧
    (seedingReport s).cad = s.cad ∧ (seedingReport s).host = s.host := by
  unfold seedingReport
  (repeat' split) <;> simp

@[simp] theorem startCadence_keeps (s : State) :
    (startCadence s).pending = s.pending ∧ (startCadence s).wire = s.wire ∧
    (startCadence s).inReset = s.inReset ∧ (startCadence s).sinceTick = s.sinceTick ∧
    (startCadence s).front = s.front ∧ (startCadence s).chans = s.chans ∧
    (startCadence s).tracker = s.tracker ∧ (startCadence s).table = s.table ∧
    (startCadence s).queue = s.queue ∧ (startCadence s).link = s.link ∧
    (startCadence s).roster = s.roster ∧ (startCadence s).ctrl = s.ctrl ∧
    (startCadence s).log = s.log ∧ (startCadence s).host = s.host := by
  simp [startCadence]

@[simp] theorem logCadenceStart_keeps (s : State) (d : Cadence) :
    (logCadenceStart d s).pending = s.pending ∧ (logCadenceStart d s).wire = s.wire ∧
    (logCadenceStart d s).inReset = s.inReset ∧ (logCadenceStart d s).sinceTick = s.sinceTick ∧
    (logCadenceStart d s).front = s.front ∧ (logCadenceStart d s).chans = s.chans ∧
    (logCadenceStart d s).tracker = s.tracker ∧ (logCadenceStart d s).table = s.table ∧
    (logCadenceStart d s).queue = s.queue ∧ (logCadenceStart d s).link = s.link ∧
    (logCadenceStart d s).roster = s.roster ∧ (logCadenceStart d s).cad = s.cad ∧
    (logCadenceStart d s).ctrl = s.ctrl ∧ (logCadenceStart d s).host = s.host := by
  unfold logCadenceStart
  (repeat' split) <;> simp

@[simp] theorem enterSeeding_keeps (s : State) :
    (enterSeeding s).pending = s.pending ∧ (enterSeeding s).wire = s.wire ∧
    (enterSeeding s).inReset = s.inReset ∧ (enterSeeding s).sinceTick = s.sinceTick ∧
    (enterSeeding s).host = s.host := by
  simp [enterSeeding]

@[simp] theorem enterOnline_keeps (s : State) :
    (enterOnline s).pending = s.pending ∧ (enterOnline s).wire = s.wire ∧
    (enterOnline s).inReset = s.inReset ∧ (enterOnline s).sinceTick = s.sinceTick ∧
    (enterOnline s).front = s.front ∧ (enterOnline s).tracker = s.tracker ∧
    (enterOnline s).table = s.table ∧ (enterOnline s).cad = s.cad ∧
    (enterOnline s).host = s.host := by
  simp [enterOnline]

@[simp] theorem enterMuted_keeps (s : State) :
    (enterMuted s).pending = s.pending ∧ (enterMuted s).wire = s.wire ∧
    (enterMuted s).inReset = s.inReset ∧ (enterMuted s).sinceTick = s.sinceTick ∧
    (enterMuted s).front = s.front ∧ (enterMuted s).tracker = s.tracker ∧
    (enterMuted s).host = s.host := by
  simp [enterMuted]

@[simp] theorem enterStopped_keeps (s : State) (st : StationState) :
    (enterStopped st s).pending = s.pending ∧ (enterStopped st s).wire = s.wire ∧
    (enterStopped st s).inReset = s.inReset ∧ (enterStopped st s).sinceTick = s.sinceTick ∧
    (enterStopped st s).host = s.host := by
  unfold enterStopped
  (repeat' split) <;> simp

@[simp] theorem restartStation_keeps (s : State) :
    (restartStation s).pending = s.pending ∧ (restartStation s).wire = s.wire ∧
    (restartStation s).inReset = s.inReset ∧ (restartStation s).sinceTick = s.sinceTick ∧
    (restartStation s).host = s.host := by
  simp [restartStation]

@[simp] theorem faultedCount_keeps (s : State) (c : Channel) (n : Nat) :
    (faultedCount c n s).pending = s.pending ∧ (faultedCount c n s).wire = s.wire ∧
    (faultedCount c n s).inReset = s.inReset ∧ (faultedCount c n s).sinceTick = s.sinceTick ∧
    (faultedCount c n s).front = s.front ∧ (faultedCount c n s).tracker = s.tracker ∧
    (faultedCount c n s).table = s.table ∧ (faultedCount c n s).queue = s.queue ∧
    (faultedCount c n s).link = s.link ∧ (faultedCount c n s).roster = s.roster ∧
    (faultedCount c n s).cad = s.cad ∧ (faultedCount c n s).ctrl = s.ctrl ∧
    (faultedCount c n s).host = s.host := by
  refine ⟨?_, ?_, ?_, ?_, ?_, ?_, ?_, ?_, ?_, ?_, ?_, ?_, ?_⟩ <;>
    (unfold faultedCount; (try dsimp only); (repeat' split) <;> simp)

@[simp] theorem keyFault_keeps (s : State) (c : Channel) (n : Nat) :
    (keyFault c n s).pending = s.pending ∧ (keyFault c n s).wire = s.wire ∧
    (keyFault c n s).inReset = s.inReset ∧ (keyFault c n s).sinceTick = s.sinceTick ∧
    (keyFault c n s).front = s.front ∧ (keyFault c n s).tracker = s.tracker ∧
    (keyFault c n s).link = s.link ∧ (keyFault c n s).roster = s.roster ∧
    (keyFault c n s).cad = s.cad ∧ (keyFault c n s).ctrl = s.ctrl ∧
    (keyFault c n s).host = s.host := by
  simp [keyFault]

@[simp] theorem carryOut_keeps (s : State) (c : Channel) (out : Chan × Signal) :
    (carryOut c out s).pending = s.pending ∧ (carryOut c out s).wire = s.wire ∧
    (carryOut c out s).inReset = s.inReset ∧ (carryOut c out s).sinceTick = s.sinceTick ∧
    (carryOut c out s).front = s.front ∧ (carryOut c out s).tracker = s.tracker ∧
    (carryOut c out s).link = s.link ∧ (carryOut c out s).roster = s.roster ∧
    (carryOut c out s).ctrl = s.ctrl ∧ (carryOut c out s).host = s.host := by
  unfold carryOut
  (repeat' split) <;> simp

@[simp] theorem keyCount_keeps (s : State) (c : Channel) (n : Nat) :
    (keyCount c n s).pending = s.pending ∧ (keyCount c n s).wire = s.wire ∧
    (keyCount c n s).inReset = s.inReset ∧ (keyCount c n s).sinceTick = s.sinceTick ∧
    (keyCount c n s).front = s.front ∧ (keyCount c n s).tracker = s.tracker ∧
    (keyCount c n s).link = s.link ∧ (keyCount c n s).roster = s.roster ∧
    (keyCount c n s).ctrl = s.ctrl ∧ (keyCount c n s).host = s.host := by
  refine ⟨?_, ?_, ?_, ?_, ?_, ?_, ?_, ?_, ?_, ?_⟩ <;>
    (unfold keyCount; (try dsimp only); (repeat' split) <;> simp)

@[simp] theorem keyConversion_keeps (s : State) (c : Channel) (n : Nat) :
    (keyConversion c n s).pending = s.pending ∧ (keyConversion c n s).wire = s.wire ∧
    (keyConversion c n s).inReset = s.inReset ∧ (keyConversion c n s).sinceTick = s.sinceTick ∧
    (keyConversion c n s).front = s.front ∧ (keyConversion c n s).tracker = s.tracker ∧
    (keyConversion c n s).link = s.link ∧ (keyConversion c n s).roster = s.roster ∧
    (keyConversion c n s).ctrl = s.ctrl ∧ (keyConversion c n s).host = s.host := by
  simp [keyConversion]

@[simp] theorem hushRequests_keeps (s : State) :
    (hushRequests s).pending = s.pending ∧ (hushRequests s).wire = s.wire ∧
    (hushRequests s).inReset = s.inReset ∧ (hushRequests s).sinceTick = s.sinceTick ∧
    (hushRequests s).front = s.front ∧ (hushRequests s).chans = s.chans ∧
    (hushRequests s).tracker = s.tracker ∧ (hushRequests s).link = s.link ∧
    (hushRequests s).roster = s.roster ∧ (hushRequests s).cad = s.cad ∧
    (hushRequests s).ctrl = s.ctrl ∧ (hushRequests s).log = s.log ∧
    (hushRequests s).host = s.host := by
  refine ⟨?_, ?_, ?_, ?_, ?_, ?_, ?_, ?_, ?_, ?_, ?_, ?_, ?_⟩ <;>
    exact foldl_keeps _ _ (fun t c => by split <;> simp) _ _

@[simp] theorem hushOn_keeps (s : State) (d : Nat) :
    (hushOn d s).pending = s.pending ∧ (hushOn d s).wire = s.wire ∧
    (hushOn d s).inReset = s.inReset ∧ (hushOn d s).sinceTick = s.sinceTick ∧
    (hushOn d s).front = s.front ∧ (hushOn d s).link = s.link ∧ (hushOn d s).roster = s.roster ∧
    (hushOn d s).cad = s.cad ∧ (hushOn d s).ctrl = s.ctrl ∧ (hushOn d s).host = s.host := by
  simp [hushOn]

@[simp] theorem refFault_keeps (s : State) (c : Channel) (n : Nat) :
    (refFault c n s).pending = s.pending ∧ (refFault c n s).wire = s.wire ∧
    (refFault c n s).inReset = s.inReset ∧ (refFault c n s).sinceTick = s.sinceTick ∧
    (refFault c n s).front = s.front ∧ (refFault c n s).table = s.table ∧
    (refFault c n s).queue = s.queue ∧ (refFault c n s).link = s.link ∧
    (refFault c n s).roster = s.roster ∧ (refFault c n s).cad = s.cad ∧
    (refFault c n s).ctrl = s.ctrl ∧ (refFault c n s).host = s.host := by
  unfold refFault
  (repeat' split) <;> simp

@[simp] theorem refIdleCount_keeps (s : State) (c : Channel) (n b : Nat) (r : Chan) :
    (refIdleCount c n b r s).pending = s.pending ∧ (refIdleCount c n b r s).wire = s.wire ∧
    (refIdleCount c n b r s).inReset = s.inReset ∧
    (refIdleCount c n b r s).sinceTick = s.sinceTick ∧ (refIdleCount c n b r s).front = s.front ∧
    (refIdleCount c n b r s).link = s.link ∧ (refIdleCount c n b r s).roster = s.roster ∧
    (refIdleCount c n b r s).cad = s.cad ∧ (refIdleCount c n b r s).ctrl = s.ctrl ∧
    (refIdleCount c n b r s).host = s.host := by
  unfold refIdleCount
  (repeat' split) <;> simp

@[simp] theorem refHushedCount_keeps (s : State) (c : Channel) (n b : Nat) (r : Chan) :
    (refHushedCount c n b r s).pending = s.pending ∧ (refHushedCount c n b r s).wire = s.wire ∧
    (refHushedCount c n b r s).inReset = s.inReset ∧
    (refHushedCount c n b r s).sinceTick = s.sinceTick ∧
    (refHushedCount c n b r s).front = s.front ∧ (refHushedCount c n b r s).table = s.table ∧
    (refHushedCount c n b r s).queue = s.queue ∧ (refHushedCount c n b r s).link = s.link ∧
    (refHushedCount c n b r s).roster = s.roster ∧ (refHushedCount c n b r s).cad = s.cad ∧
    (refHushedCount c n b r s).ctrl = s.ctrl ∧ (refHushedCount c n b r s).host = s.host := by
  unfold refHushedCount
  (repeat' split) <;> simp

@[simp] theorem refConversion_keeps (s : State) (c : Channel) (n : Nat) :
    (refConversion c n s).pending = s.pending ∧ (refConversion c n s).wire = s.wire ∧
    (refConversion c n s).inReset = s.inReset ∧ (refConversion c n s).sinceTick = s.sinceTick ∧
    (refConversion c n s).front = s.front ∧ (refConversion c n s).link = s.link ∧
    (refConversion c n s).roster = s.roster ∧ (refConversion c n s).cad = s.cad ∧
    (refConversion c n s).ctrl = s.ctrl ∧ (refConversion c n s).host = s.host := by
  refine ⟨?_, ?_, ?_, ?_, ?_, ?_, ?_, ?_, ?_, ?_⟩ <;>
    (unfold refConversion; (try dsimp only); (repeat' split) <;> simp)

@[simp] theorem slotConversion_keeps (s : State) (slot : Slot) (n : Nat) :
    (slotConversion slot n s).pending = s.pending ∧ (slotConversion slot n s).wire = s.wire ∧
    (slotConversion slot n s).inReset = s.inReset ∧
    (slotConversion slot n s).sinceTick = s.sinceTick ∧
    (slotConversion slot n s).front = s.front ∧ (slotConversion slot n s).link = s.link ∧
    (slotConversion slot n s).roster = s.roster ∧ (slotConversion slot n s).ctrl = s.ctrl ∧
    (slotConversion slot n s).host = s.host := by
  unfold slotConversion
  (repeat' split) <;> simp

@[simp] theorem recalTracker_keeps (s : State) :
    (recalTracker s).pending = s.pending ∧ (recalTracker s).wire = s.wire ∧
    (recalTracker s).inReset = s.inReset ∧ (recalTracker s).sinceTick = s.sinceTick ∧
    (recalTracker s).front = s.front ∧ (recalTracker s).table = s.table ∧
    (recalTracker s).queue = s.queue ∧ (recalTracker s).link = s.link ∧
    (recalTracker s).roster = s.roster ∧ (recalTracker s).cad = s.cad ∧
    (recalTracker s).ctrl = s.ctrl ∧ (recalTracker s).host = s.host := by
  unfold recalTracker
  (repeat' split) <;> simp

@[simp] theorem recalHeard_keeps (s : State) :
    (recalHeard s).pending = s.pending ∧ (recalHeard s).wire = s.wire ∧
    (recalHeard s).inReset = s.inReset ∧ (recalHeard s).sinceTick = s.sinceTick ∧
    (recalHeard s).front = s.front ∧ (recalHeard s).link = s.link ∧
    (recalHeard s).roster = s.roster ∧ (recalHeard s).cad = s.cad ∧
    (recalHeard s).ctrl = s.ctrl ∧ (recalHeard s).host = s.host := by
  simp [recalHeard]

@[simp] theorem tableHears_keeps (s : State) (f : Frame) :
    (tableHears f s).pending = s.pending ∧ (tableHears f s).wire = s.wire ∧
    (tableHears f s).inReset = s.inReset ∧ (tableHears f s).sinceTick = s.sinceTick ∧
    (tableHears f s).front = s.front ∧ (tableHears f s).link = s.link ∧
    (tableHears f s).roster = s.roster ∧ (tableHears f s).cad = s.cad ∧
    (tableHears f s).ctrl = s.ctrl ∧ (tableHears f s).host = s.host := by
  unfold tableHears
  (repeat' split) <;> simp

@[simp] theorem pulseSuccess_keeps (s : State) (f : PulseFields) :
    (pulseSuccess f s).pending = s.pending ∧ (pulseSuccess f s).wire = s.wire ∧
    (pulseSuccess f s).inReset = s.inReset ∧ (pulseSuccess f s).sinceTick = s.sinceTick ∧
    (pulseSuccess f s).front = s.front ∧ (pulseSuccess f s).chans = s.chans ∧
    (pulseSuccess f s).tracker = s.tracker ∧ (pulseSuccess f s).table = s.table ∧
    (pulseSuccess f s).link = s.link ∧ (pulseSuccess f s).roster = s.roster ∧
    (pulseSuccess f s).ctrl = s.ctrl ∧ (pulseSuccess f s).log = s.log ∧
    (pulseSuccess f s).host = s.host := by
  simp [pulseSuccess]

@[simp] theorem attemptSucceeds_keeps (s : State) (slot : TxSlot) (f : Frame) :
    (attemptSucceeds slot f s).pending = s.pending ∧ (attemptSucceeds slot f s).wire = s.wire ∧
    (attemptSucceeds slot f s).inReset = s.inReset ∧
    (attemptSucceeds slot f s).sinceTick = s.sinceTick ∧
    (attemptSucceeds slot f s).front = s.front ∧ (attemptSucceeds slot f s).chans = s.chans ∧
    (attemptSucceeds slot f s).tracker = s.tracker ∧ (attemptSucceeds slot f s).table = s.table ∧
    (attemptSucceeds slot f s).roster = s.roster ∧ (attemptSucceeds slot f s).ctrl = s.ctrl ∧
    (attemptSucceeds slot f s).log = s.log ∧ (attemptSucceeds slot f s).host = s.host := by
  unfold attemptSucceeds
  (repeat' split) <;> simp

@[simp] theorem cadenceHears_keeps (s : State) (f : Frame) (old : Vector Entry 8) :
    (cadenceHears f old s).pending = s.pending ∧ (cadenceHears f old s).wire = s.wire ∧
    (cadenceHears f old s).inReset = s.inReset ∧ (cadenceHears f old s).sinceTick = s.sinceTick ∧
    (cadenceHears f old s).front = s.front ∧ (cadenceHears f old s).chans = s.chans ∧
    (cadenceHears f old s).tracker = s.tracker ∧ (cadenceHears f old s).table = s.table ∧
    (cadenceHears f old s).link = s.link ∧ (cadenceHears f old s).roster = s.roster ∧
    (cadenceHears f old s).ctrl = s.ctrl ∧ (cadenceHears f old s).host = s.host := by
  unfold cadenceHears
  (repeat' split) <;> simp

@[simp] theorem deliver_keeps (s : State) (f : Frame) (own : Option TxSlot) :
    (deliver f own s).pending = s.pending ∧ (deliver f own s).wire = s.wire ∧
    (deliver f own s).inReset = s.inReset ∧ (deliver f own s).sinceTick = s.sinceTick ∧
    (deliver f own s).host = s.host := by
  unfold deliver
  (repeat' split) <;> simp

@[simp] theorem hear_keeps (s : State) (f : Frame) :
    (hear f s).pending = s.pending ∧ (hear f s).wire = s.wire ∧ (hear f s).inReset = s.inReset ∧
    (hear f s).sinceTick = s.sinceTick ∧ (hear f s).host = s.host := by
  unfold hear
  (repeat' split) <;> simp

@[simp] theorem elapse_keeps (s : State) (us : Nat) :
    (elapse us s).pending = s.pending ∧ (elapse us s).wire = s.wire ∧
    (elapse us s).inReset = s.inReset ∧ (elapse us s).sinceTick = s.sinceTick ∧
    (elapse us s).tracker = s.tracker ∧ (elapse us s).link = s.link ∧ (elapse us s).log = s.log ∧
    (elapse us s).host = s.host := by
  simp [elapse]

@[simp] theorem idle_keeps (s : State) :
    (idle s).pending = s.pending ∧ (idle s).inReset = s.inReset ∧ (idle s).tracker = s.tracker ∧
    (idle s).log = s.log ∧ (idle s).host = s.host := by
  unfold idle
  (repeat' split) <;> simp

end Sys2Proof.Machine
end

