-- ==== Sys2Proof/Laws/Link.lean ====
section
/-! SUPPORT. What a bit read does to the link controller, and when an idle step waits (05, R87, R94). -/

namespace Sys2Proof.Machine

/-- Where an event of the link is due, an idle step waits. -/
theorem idle_waits (s : State) (h : linkDue s.link = true) : idle s = s := by simp [idle, h]

/-- The attempt's next bit is driven over the same line, frame and slot. -/
@[simp] theorem driveNext_line (a : Attempt) (l : Link) : (driveNext a l).line = l.line := rfl

/-- A bit read during an attempt is the next one of the frame in assembly, whatever it is. -/
theorem attemptReads_line (bit : Bool) (a : Attempt) (l : Link) :
    (attemptReads bit a l).line =
      .receiving ((frameBits a.frame).take (a.bit - 1) ++ [!sentDominant a.frame a.bit && bit]) := by
  unfold attemptReads
  dsimp only
  split <;> rfl

/-- A bit read during an attempt leaves its frame and slot: it goes on to its next bit, or stays at the
bit that ends it. -/
theorem attemptReads_attempt (bit : Bool) (a : Attempt) (l : Link) (h : l.attempt = some a) :
    ∃ b, (attemptReads bit a l).attempt = some b ∧ b.frame = a.frame ∧ b.slot = a.slot
      ∧ (b = a ∨ b.bit = a.bit + 1) := by
  unfold attemptReads
  dsimp only
  split
  · exact ⟨_, rfl, rfl, rfl, .inr rfl⟩
  · exact ⟨a, h, rfl, rfl, .inl rfl⟩

/-- No bit read changes the counters or the failure run. -/
theorem linkReads_counters (bit : Bool) (l : Link) :
    (linkReads bit l).rxErrors = l.rxErrors ∧ (linkReads bit l).txFailures = l.txFailures
      ∧ (linkReads bit l).consecutive = l.consecutive := by
  cases h : l.attempt with
  | none => simp [linkReads, h]
  | some a =>
    simp only [linkReads, h, attemptReads]
    split <;> exact ⟨rfl, rfl, rfl⟩

end Sys2Proof.Machine
end

