-- ==== Sys2Proof/Laws/Log.lean ====
section
/-! SUPPORT. What the event log's operations can do: each keeps the log coherent, none moves the clock,
and a record handed either joins the tail or is counted (09, R154 to R158). -/

namespace Sys2Proof.Machine

/-- Everything a record handed to the log can do: it joins the tail, or it is counted as lost. -/
theorem logPut_cases (l : EventLog) (e : Event) :
    (l.records.length < Config.logCapacity ∧ logPut l e = { l with
        records := l.records ++ [{ number := l.nextNumber, stamp := l.clock, event := e }]
        nextNumber := l.nextNumber + 1#8
        rptLow := true })
      ∨ (Config.logCapacity ≤ l.records.length
        ∧ logPut l e = { l with lostCount := satIncByte l.lostCount }) := by
  by_cases h : l.records.length < Config.logCapacity
  · exact .inl ⟨h, by simp [logPut, h]⟩
  · exact .inr ⟨by omega, by simp [logPut, h]⟩

@[simp] theorem logPut_clock (l : EventLog) (e : Event) : (logPut l e).clock = l.clock := by
  unfold logPut; split <;> rfl

@[simp] theorem foldl_logPut_clock (es : List Event) (l : EventLog) :
    (es.foldl logPut l).clock = l.clock := by
  induction es generalizing l with
  | nil => rfl
  | cons e es ih => rw [List.foldl_cons, ih, logPut_clock]

@[simp] theorem logDropHead_clock (l : EventLog) : (logDropHead l).clock = l.clock := rfl

@[simp] theorem logTake_clock (own : Station) (l : EventLog) : (logTake own l).clock = l.clock := by
  simp only [logTake]; split <;> simp

/-- The conditions the log keeps between its counts: a record handed keeps them. -/
theorem logPut_inv {l : EventLog} (h : LogInv l) (e : Event) : LogInv (logPut l e) := by
  obtain ⟨hlen, hnum, hrpt, hlost⟩ := h
  obtain ⟨hroom, heq⟩ | ⟨hfull, heq⟩ := logPut_cases l e
  · have hz : l.lostCount = 0#8 := by
      by_contra hne
      have := hlost hne
      omega
    rw [heq]
    refine ⟨by simp; omega, ?_, by simp, by simp [hz]⟩
    intro i hi
    simp only [List.length_append, List.length_cons, List.length_nil, Nat.zero_add] at hi ⊢
    by_cases hlt : i < l.records.length
    · rw [List.getElem_append_left hlt, ← hnum i hlt,
        show l.records.length + 1 - i = (l.records.length - i) + 1 by omega, BitVec.ofNat_add,
        BitVec.add_assoc]
    · have hi' : i = l.records.length := by omega
      subst hi'
      simp
  · rw [heq]
    exact ⟨hlen, hnum, hrpt, fun _ => by simp; omega⟩

theorem foldl_logPut_inv (es : List Event) {l : EventLog} (h : LogInv l) :
    LogInv (es.foldl logPut l) := by
  induction es generalizing l with
  | nil => exact h
  | cons e es ih => exact ih (logPut_inv h e)

end Sys2Proof.Machine
end

