-- ==== Sys2Proof/Laws/Queue.lean ====
section
/-! SUPPORT. What the transmit queue's operations can do: a request or a withdrawal for a group changes
that group's slot alone (06, R108 to R111), an evaluation none of the entries (04, R72, R73). -/

namespace Sys2Proof.Machine

@[simp] theorem setSlot_recal (q : TxQueue) (g : Group) (sl : GroupSlot) : (setSlot q g sl).recal = q.recal := rfl
@[simp] theorem setSlot_pulse (q : TxQueue) (g : Group) (sl : GroupSlot) : (setSlot q g sl).pulse = q.pulse := rfl
@[simp] theorem setSlot_renewal (q : TxQueue) (g : Group) (sl : GroupSlot) :
    (setSlot q g sl).renewal = q.renewal := rfl
@[simp] theorem setSlot_inFlight (q : TxQueue) (g : Group) (sl : GroupSlot) :
    (setSlot q g sl).inFlight = q.inFlight := rfl
@[simp] theorem setSlot_withdrawnInFlight (q : TxQueue) (g : Group) (sl : GroupSlot) :
    (setSlot q g sl).withdrawnInFlight = q.withdrawnInFlight := rfl
@[simp] theorem setSlot_intervalTimer (q : TxQueue) (g : Group) (sl : GroupSlot) :
    (setSlot q g sl).intervalTimer = q.intervalTimer := rfl
@[simp] theorem setSlot_groups (q : TxQueue) (g : Group) (sl : GroupSlot) :
    (setSlot q g sl).groups = q.groups.set g sl := rfl

/-- A queue is itself with one of its own slots written back. -/
theorem setSlot_self (q : TxQueue) (g : Group) : setSlot q g q.groups[g] = q := by
  simp [setSlot]

/-- A slot written twice holds what was written last. -/
theorem setSlot_twice (q : TxQueue) (g : Group) (a b : GroupSlot) :
    setSlot (setSlot q g a) g b = setSlot q g b := by
  simp [setSlot]

theorem setSlot_groups_other (q : TxQueue) {g d : Group} (h : g ≠ d) (sl : GroupSlot) :
    (setSlot q g sl).groups[d] = q.groups[d] := by
  rw [setSlot_groups, set_get_other _ h]

/-- Everything a CONFIRM request can do: it writes one frame at its group's slot, or nothing. -/
theorem confirmRequest_cases (g : Group) (c : Channel) (q : TxQueue) :
    confirmRequest g c q = q
      ∨ confirmRequest g c q = setSlot q g { q.groups[g] with frame := some (.confirm c) } := by
  unfold confirmRequest
  split
  · exact .inr rfl
  · split
    · exact .inl rfl
    · exact .inr rfl
  · exact .inl rfl

/-- Everything a RELEASE request can do: it changes its group's slot alone. -/
theorem releaseRequest_cases (g : Group) (c : Channel) (reason : Reason) (q : TxQueue) :
    ∃ sl, releaseRequest g c reason q = setSlot q g sl := by
  unfold releaseRequest
  dsimp only
  (repeat' split) <;> first | exact ⟨_, rfl⟩ | exact ⟨q.groups[g], (setSlot_self q g).symm⟩

/-- Everything a withdrawal of a slot's frame can do. -/
theorem withdrawFrame_cases (g : Group) (q : TxQueue) :
    (groupInFlight q g = true ∧ withdrawFrame g q =
        { setSlot q g { q.groups[g] with followUp := none } with withdrawnInFlight := true })
      ∨ (groupInFlight q g = false ∧ withdrawFrame g q = setSlot q g { q.groups[g] with frame := none }) := by
  unfold withdrawFrame
  cases h : groupInFlight q g
  · exact .inr ⟨rfl, by simp⟩
  · exact .inl ⟨rfl, by simp⟩

theorem withdrawFrame_other (q : TxQueue) {g d : Group} (h : g ≠ d) :
    (withdrawFrame g q).groups[d] = q.groups[d] := by
  obtain ⟨-, e⟩ | ⟨-, e⟩ := withdrawFrame_cases g q <;> rw [e]
  · exact setSlot_groups_other q h _
  · exact setSlot_groups_other q h _

/-- A withdrawal for a channel leaves every other group's slot. -/
theorem withdrawFor_other (q : TxQueue) {g d : Group} (h : g ≠ d) (c : Channel) :
    (withdrawFor g c q).groups[d] = q.groups[d] := by
  unfold withdrawFor
  dsimp only
  (repeat' split) <;> simp only [withdrawFrame_other _ h, setSlot_groups_other _ h]

/-- A withdrawal for a whole group leaves every other group's slot. -/
theorem withdrawGroup_other (q : TxQueue) {g d : Group} (h : g ≠ d) :
    (withdrawGroup g q).groups[d] = q.groups[d] := by
  unfold withdrawGroup
  dsimp only
  split
  · rw [withdrawFrame_other _ h, setSlot_groups_other _ h]
  · exact setSlot_groups_other _ h _

/-- Outside ONLINE nothing is evaluated. -/
theorem evaluate_offline (which : Group → Bool) (s : State) (h : s.online = false) :
    evaluate which s = s := by
  simp [evaluate, h]

/-- A group that is not called keeps its slot through an evaluation. -/
theorem evaluate_slot_other (which : Group → Bool) (s : State) (g : Group) (h : which g = false) :
    (evaluate which s).queue.groups[g] = s.queue.groups[g] := by
  unfold evaluate
  split
  · simp [h]
  · rfl

/-- A channel of a group that is not called keeps its record through an evaluation. -/
theorem evaluate_chan_other (which : Group → Bool) (s : State) (c : Channel)
    (h : which s.chans[c].setup.group = false) : (evaluate which s).chans[c] = s.chans[c] := by
  unfold evaluate
  split
  · simp_all
  · rfl

end Sys2Proof.Machine
end

