-- ==== Sys2Proof/Tests/Slice0.lean ====
section
/-! SUPPORT. The model's own tests: operands out of range refused, values the spec works out, one or
two small steps per command, and for each statement a state that meets its hypotheses. -/

namespace Sys2Proof.Tests
open Sys2Proof.Machine

/-! ### Helpers -/

/-- The state after full reset, moved to a station state. -/
def inState (st : StationState) : State :=
  { State.reset with ctrl := {
      state := st, straps := resetStraps, block := defaultSetupBlock, lockOpen := decide (st = .setup)
      setupHold := none, listenTimer := none, muteTimer := none, leavePending := false } }

/-- Station `n` in a station state. -/
def station (n : Station) (st : StationState) : State :=
  { inState st with ctrl := { (inState st).ctrl with
      straps := { station := n, address := 0, autojoin := false } } }

/-- The setup values of a default channel of group `g`. -/
def defaultChannel (g : Group) : ChannelSetup :=
  { enabled := true, group := g, step := 3, touchThreshold := 40, releaseThreshold := 30 }

/-- A record of group `g` with a baseline. -/
def record (g : Group) (st : ChanState) (baseline : Nat) : Chan :=
  { offChan (defaultChannel g) with state := st, baseline := some baseline }

/-- The front end converting a slot, the last of its list. -/
def convertingSlot (slot : Slot) (s : State) : State :=
  { s with front := {
      scanList := [slot], phase := some .scan, position := some slot, conversion := some (slot, 0)
      waitTimer := none, cycle := 0#16 } }

/-- CH6 converting in ONLINE, with the record given. -/
def ch6 (r : Chan) : State := (convertingSlot (.channel 6) (inState .online)).setChan 6 r

/-- The reference converting in ONLINE, hosted by CH15, with the record given. -/
def reference (r : Chan) : State :=
  let s := (convertingSlot .reference (inState .online)).setChan 15 r
  { s with tracker := { s.tracker with settings := { s.tracker.settings with refHost := some 15 } } }

/-- The receiver has read a start bit. -/
def started (s : State) : State := { s with link := { s.link with line := .receiving [false] } }

/-- An attempt of this station's own in progress. -/
def sendingFrame (slot : TxSlot) (f : Frame) (s : State) : State :=
  { s with
    queue := { s.queue with inFlight := some slot }
    link := { s.link with
      line := .idle
      attempt := some { slot := slot, frame := f, bit := 1, phase := .arbitrating }, linkLow := true } }

/-- The attempt on the slot and the frame given, right after its start. -/
def attemptOf (slot : TxSlot) (f : Frame) : Attempt :=
  { slot := slot, frame := f, bit := 1, phase := .arbitrating }

/-- The fields of a PULSE in BRISK with the holdings and the leaving flag given. -/
def briskPulse (leaving : Bool) (holdings : List (Group × Channel)) : PulseFields :=
  { cadence := .brisk, hushed := false, stirred := false, leaving := leaving, holdings := holdings }

/-- A group slot that holds a frame. -/
def queued (g : Group) (f : GroupFrame) (s : State) : State :=
  { s with queue := setSlot s.queue g { frame := some f, followUp := none } }

/-- A group entry. -/
def entry (g : Group) (e : Entry) (s : State) : State := s.setEntry g e

/-- A host transaction in progress at a register index. -/
def transaction (d : Direction) (due : Bool) (index : BitVec 7) (s : State) : State :=
  { s with host := { s.host with
      index := index
      transaction := some { direction := d, indexDue := due, nacked := false, readLast := false } } }

/-- The state a command leaves. -/
def after (c : Instr) (s : State) : State :=
  match exec c s with
  | .next t => t
  | _ => s

/-- The bits that a string of 0 and 1 spells. -/
def bitsOf (l : List Nat) : List Bool := l.map fun n => n == 1

/-! ### Operands out of range (01, R2; 05, R88, R89; 10, R170) -/

theorem test_wf_count : (Instr.conversionCompletion 4096).wellFormed = false := by decide
theorem test_wf_strength_zero : (Instr.frameHeard (.claim 0 3 2 2)).wellFormed = false := by decide
theorem test_wf_strength_high : (Instr.frameHeard (.claim 1024 3 2 2)).wellFormed = false := by decide
theorem test_wf_holdings : (Instr.frameHeard (.pulse 3 {
    cadence := .brisk, hushed := false, stirred := false, leaving := false
    holdings := List.replicate 9 (0, 0) })).wellFormed = false := by decide
theorem test_wf_discard_short : (Instr.frameDiscarded [false, true, true]).wellFormed = false := by decide
theorem test_wf_discard_long : (Instr.frameDiscarded (List.replicate 88 false)).wellFormed = false := by decide
theorem test_wf_failing_bit :
    (Instr.attemptFailure 0).wellFormed = false ∧ (Instr.attemptFailure 88).wellFormed = false := by decide
theorem test_wf_losing_bit :
    (Instr.lossOfArbitration 1).wellFormed = false ∧ (Instr.lossOfArbitration 19).wellFormed = false := by
  decide
theorem test_wf_known_command :
    (Instr.unknownCommand 1#8).wellFormed = false ∧ (Instr.unknownCommand 6#8).wellFormed = false := by
  decide
theorem test_wf_accepts : (Instr.conversionCompletion 4095).wellFormed = true
    ∧ (Instr.frameHeard (.claim 1 3 2 2)).wellFormed = true
    ∧ (Instr.frameHeard (.claim 1023 3 2 2)).wellFormed = true
    ∧ (Instr.unknownCommand 7#8).wellFormed = true := by decide

/-! ### Values the spec works out -/

/-- 11, 11.1, the example: the check of a RECAL from station 5 is 1BH. -/
theorem test_check_recal_5 :
    checkOf (bitsOf [0, 0, 0, 0, 1, 0, 1]) = 0x1B#8 := by decide

/-- 11, 11.1, the example: the RECAL's 23 bits on the line. -/
theorem test_bits_recal_5 : frameBits (.recal 5) =
    bitsOf [0, 0, 0, 0, 0, 1, 0, 1, 0, 0, 0, 1, 1, 0, 1, 1, 1, 1, 1, 1, 1, 1, 1] := by decide

/-- The same 23 bits as a receiver reads them. -/
theorem test_judge_recal_5 : judge
    (bitsOf [0, 0, 0, 0, 0, 1, 0, 1, 0, 0, 0, 1, 1, 0, 1, 1, 1, 1, 1, 1, 1, 1, 1]) = .heard (.recal 5) := by
  decide

/-- 05, 5.11: strength 70 is sent as 1110111001 after the start bit and the kind 011. -/
theorem test_bits_claim_70 : (frameBits (.claim 70 3 2 2)).take 14 =
    bitsOf [0, 0, 1, 1, 1, 1, 1, 0, 1, 1, 1, 0, 0, 1] := by decide

/-- 05, R88: frame lengths 33, 30 and 40; 06, 6.9: 38 bits for a PULSE of one pair. -/
theorem test_frame_lengths : (frameBits (.release 4 1 9 .stuck)).length = 33
    ∧ (frameBits (.confirm 4 3 11)).length = 30 ∧ (frameBits (.claim 70 3 2 2)).length = 40
    ∧ (frameBits (.pulse 3 {
        cadence := .slack, hushed := true, stirred := false, leaving := false
        holdings := [(3, 11)] })).length = 38 := by decide

/-- 05, R88, R90: the kinds 101, 110 and 111 are condemned at the fourth bit. -/
theorem test_judge_unknown_kind : judge (bitsOf [0, 1, 0, 1]) = .discarded 0
    ∧ judge (bitsOf [0, 1, 1, 0]) = .discarded 0 ∧ judge (bitsOf [0, 1, 1, 1]) = .discarded 0 := by decide

/-- 11, R178: a holdings count of 9 condemns the frame at bit 17, a count of 8 does not. -/
theorem test_judge_holdings_count :
    judge (bitsOf [0, 1, 0, 0, 0, 0, 0, 0, 0, 0, 0, 0, 1, 0, 0, 1, 0]) = .discarded 0
    ∧ judge (bitsOf [0, 1, 0, 0, 0, 0, 0, 0, 0, 0, 0, 0, 1, 0, 0, 0, 0]) = .assembling := by decide

/-- 02, R18 and 2.7: threshold 40 at 3/4 gives 30; 11 at 1/2 gives 5 by truncation; 8 at 1/2 gives the
floor of 4; 1023 at 7/8 gives 895, the top of the range of 2.1. -/
theorem test_release_thresholds : releaseThresholdOf 40 6 = 30 ∧ releaseThresholdOf 11 4 = 5
    ∧ releaseThresholdOf 8 4 = 4 ∧ releaseThresholdOf 1023 7 = 895 := by decide

/-- 10, 10.8: CH4's touch threshold at 5 is found at offset 18H. -/
theorem test_setup_invalid_offset :
    firstBadOffset (defaultSetupBlock.set 0x19 0x05#8) = some 0x18 := by decide

/-- 11, R179: the default block is valid; it enables CH7 in group 7 with step 3 and threshold 40. -/
theorem test_setup_defaults : firstBadOffset defaultSetupBlock = none
    ∧ channelSetupOf defaultSetupBlock 7 = defaultChannel 7 := by decide

/-- 11, 11.6, the example: KEY-DOWN of (3, CH2), group 2, strength 70, number 3 at clock 0342H. -/
theorem test_key_down_bytes : recordBytes {
    number := 0x03#8, stamp := 0x0342#16
    event := .keyDown { station := 3, channel := 2 } 2 70 .confirmed }
      = [0x03#8, 0x03#8, 0x42#8, 0x03#8, 0x02#8, 0x02#8, 0x00#8, 0x46#8] := by decide

/-- The same press adopted, with strength unknown, reads 80H, 00H at 26H and 27H. -/
theorem test_adopted_bytes : (recordBytes {
    number := 0x03#8, stamp := 0x0342#16
    event := .keyDown { station := 3, channel := 2 } 2 0 .adopted }).drop 6 = [0x80#8, 0x00#8] := by decide

/-! ### One or two steps of each command -/

/-- 08, R141: AUTOJOIN starts the setup hold timer with 100 ms. -/
theorem test_full_reset :
    (after (.fullReset { station := 9, address := 2, autojoin := true }) (inState .halted)).ctrl.setupHold
      = some 100000
    ∧ (after (.fullReset { station := 9, address := 2, autojoin := true }) (inState .halted)).number = 9 := by
  decide

/-- 02, 2.7: the sixteenth seeding count, 21608 + 5391 behind it and 1797 now, gives baseline 1799. -/
theorem test_conversion_seeds :
    let s := after (.conversionCompletion 1797) (ch6 { record 6 .seeding 1785 with seed := some (26999, 15) })
    s.chans[6].state = .idle ∧ s.chans[6].baseline = some 1799 ∧ s.chans[6].delta = some 2 := by decide

/-- 02, 2.7: delta 47 at conversion 4 meets the debounce of 3, and delta 31 at 43 breaks the lift run. -/
theorem test_conversion_touch_and_lift :
    (after (.conversionCompletion 1755) (ch6 { record 6 .arming 1802 with touchDebounce := 2 })).chans[6].state
      = .candidate
    ∧ (after (.conversionCompletion 1771) (ch6 { record 6 .pressed 1802 with liftDebounce := 2 })).chans[6]
      = { record 6 .pressed 1802 with count := some 1771, delta := some 31, liftDebounce := 0 } := by decide

/-- 01, R3, R4: a scan phase begins with the first slot, whose conversion at step 3 lasts 1.6 ms. -/
theorem test_wait_expiry :
    (after .waitTimerExpiry { ch6 (record 6 .idle 1800) with front := {
      scanList := [.channel 6], phase := some .wait, position := none, conversion := none
      waitTimer := some 0, cycle := 0#16 } }).front.conversion = some (.channel 6, 1600) := by decide

/-- 03, 3.15: CLAIM (3, 2, CH2, 70) displaces (9, CH10) with 45, and CH10 passes to SUPPRESSED. -/
theorem test_frame_heard_claim :
    let s := after (.frameHeard (.claim 70 3 2 2)) (started (entry 2
      (.contested { station := 9, channel := 10 } 45 200000 (some 5280))
      ((station 9 .online).setChan 10 (record 2 .contending 2000))))
    s.table.entries[2] = .contested { station := 3, channel := 2 } 70 250000 none
      ∧ s.chans[10].state = .suppressed := by decide

/-- 03, 3.15: the RELEASE (LIFT) heard puts the group in GUARD for 24 ms with KEY-UP. -/
theorem test_frame_heard_release :
    let s := after (.frameHeard (.release 3 2 2 .lift)) (started (entry 2
      (.owned { station := 3, channel := 2 } 70 0#16) (station 12 .online)))
    s.table.entries[2] = .guarded 24000
      ∧ (s.log.records.map Record.event).getLast? =
        some (.keyUp { station := 3, channel := 2 } 2 .lift) := by decide

/-- 05, R90: one receive error. -/
theorem test_frame_discarded :
    (after (.frameDiscarded (bitsOf [0, 1, 1, 1])) (started (inState .listen))).link.rxErrors = 1#16 := by decide

/-- 06, 6.9: with slots 1, 3 and 6 and the PULSE queued, the RELEASE of slot 1 is attempted first. -/
theorem test_attempt_start :
    (after .attemptStart (queued 6 (.claim 14) (queued 3 (.confirm 11) (queued 1 (.release 9 .stuck)
      { station 4 .online with
        queue := { emptyQueue with pulse := true }, link := { resetLink with line := .idle } })))).link.attempt
      = some { slot := .group 1, frame := .release 4 1 9 .stuck, bit := 1, phase := .arbitrating } := by decide

/-- 05, 5.12: the sixteenth failure mutes the station. -/
theorem test_attempt_failure :
    let s := sendingFrame .pulse (.pulse 6 (pulseContent (station 6 .online))) (station 6 .online)
    (after (.attemptFailure 1) { s with link := { s.link with consecutive := 15 } }).ctrl.muteTimer
      = some 1000000 := by decide

/-- 05, 5.11: station 12's PULSE loses at bit 2, and it receives on with the bits 0, 0. -/
theorem test_loss_of_arbitration :
    (after (.lossOfArbitration 2) (sendingFrame .pulse (.pulse 12 (pulseContent (station 12 .online)))
      (station 12 .online))).link.line = .receiving [false, false] := by decide

/-- 03, 3.15: the contest timer's expiry requests the CONFIRM of CH2. -/
theorem test_contest_expiry :
    (after (.contestTimerExpiry 2) (entry 2 (.contested { station := 3, channel := 2 } 70 234000 (some 0))
      (station 3 .online))).queue.groups[2].frame = some (.confirm 2) := by decide

/-- 03, R53: the abandoned contest is counted and the group FREE. -/
theorem test_abandon_expiry :
    let s := after (.abandonTimerExpiry 2) (entry 2 (.contested { station := 3, channel := 2 } 70 0 none)
      (station 12 .online))
    s.table.abandoned = 1#16 ∧ s.table.entries[2] = .free := by decide

/-- 03, R55: the guard's end frees the group. -/
theorem test_guard_expiry :
    (after (.guardTimerExpiry 2) (entry 2 (.guarded 0) (station 12 .online))).table.entries[2] = .free := by
  decide

/-- 06, 6.9: CH9's hold timer expiry takes it to SEEDING with RELEASE (STUCK) queued. -/
theorem test_hold_expiry :
    let s := after (.holdTimerExpiry 9)
      ((station 4 .online).setChan 9 { record 1 .pressed 1800 with holdTimer := some 0 })
    s.chans[9].state = .seeding ∧ s.queue.groups[1].frame = some (.release 9 .stuck) := by decide

/-- 06, R114: the interval timer's expiry queues a PULSE. -/
theorem test_interval_expiry :
    (after .pulseIntervalTimerExpiry { inState .online with
      queue := { emptyQueue with intervalTimer := some 0 } }).queue.pulse = true := by decide

/-- 07, R123: the silent peer is ABSENT and its group freed. -/
theorem test_last_heard_expiry :
    let s := after (.lastHeardTimerExpiry 3) (entry 2 (.owned { station := 3, channel := 2 } 70 0#16)
      { station 12 .online with roster := State.reset.roster.set 3 {
        present := true, lastHeard := some 0, announced := none } })
    s.roster[3] = absentEntry ∧ s.table.entries[2] = .free := by decide

/-- 07, R131: the station turns SLACK. -/
theorem test_quiet_expiry :
    (after .quietTimerExpiry { inState .online with
      cad := { resetCadence with quiet := .running 0 } }).cad.cadence = .slack := by decide

/-- 08, R141: a valid block takes the station into SEEDING with its lock closed. -/
theorem test_setup_hold_expiry :
    let s := after .setupHoldTimerExpiry { inState .setup with
      ctrl := { (inState .setup).ctrl with setupHold := some 0 } }
    s.ctrl.state = .seeding ∧ s.ctrl.lockOpen = false := by decide

/-- 08, R145: ONLINE with a PULSE queued. -/
theorem test_listen_expiry :
    let s := after .listenTimerExpiry { inState .listen with
      ctrl := { (inState .listen).ctrl with listenTimer := some 0 } }
    s.ctrl.state = .online ∧ s.queue.pulse = true := by decide

/-- 08, R146: LISTEN for 1200 ms. -/
theorem test_mute_expiry :
    (after .muteTimerExpiry { inState .muted with
      ctrl := { (inState .muted).ctrl with muteTimer := some 0 } }).ctrl.listenTimer = some 1200000 := by decide

/-- 09, R153: the clock goes from 65535 to 0. -/
theorem test_millisecond_tick :
    (after .millisecondClockTick { inState .online with
      log := { resetLog with clock := 0xFFFF#16 } }).log.clock = 0#16 := by decide

/-- 10, R163 and 10.8: address value 1 answers at 4DH; the address byte 9BH is its READ. -/
theorem test_transaction_start :
    let s := inState .setup
    (after (.hostTransactionStart 0x9B#8) { s with ctrl := { s.ctrl with
      straps := { station := 7, address := 1, autojoin := false } } }).host.transaction
      = some { direction := .read, indexDue := false, nacked := false, readLast := false } := by decide

/-- 10, R170 and 10.8 step 5: the JOIN written at 01H is taken at the stop. -/
theorem test_transaction_end :
    let s := transaction .write false 0x02#7 (inState .setup)
    (after (.hostTransactionEnd .stop) { s with
      host := { s.host with commandPending := some 0x01#8 } }).ctrl.state = .seeding := by decide

/-- 08, R140: refused in ONLINE. -/
theorem test_join_refused : (after .join (inState .online)).host.result = .refusedState := by decide

/-- 10, 10.8 step 2: SETUP-INVALID with offset 18H in the argument. -/
theorem test_join_invalid :
    let s := inState .setup
    (after .join { s with ctrl := { s.ctrl with
      block := defaultSetupBlock.set 0x19 0x05#8 } }).host.argument = 0x18#8 := by decide

/-- 08, R151: a HALTED station restarts, its stray count 0. -/
theorem test_restart :
    let s := after .restart { inState .halted with table := { resetTable with stray := 5#16 } }
    s.ctrl.state = .seeding ∧ s.table.stray = 0#16 := by decide

/-- 02, R24: the channel in the argument seeds. -/
theorem test_reseed :
    let s := (inState .online).setChan 6 (record 6 .idle 1785)
    (after .reseed { s with host := { s.host with argument := 6#8 } }).chans[6].seed = some (0, 0) := by decide

/-- 06, 6.9: PANEL-RECAL fills the RECAL slot; a second one merges with ALREADY-PENDING. -/
theorem test_panel_recal :
    (after .panelRecal (inState .online)).queue.recal = true
    ∧ (after .panelRecal (after .panelRecal (inState .online))).host.result = .alreadyPending := by decide

/-- 08, R147: LISTEN leaves at once. -/
theorem test_leave : (after .leave (inState .listen)).ctrl.state = .offline
    ∧ (after .leave (inState .online)).ctrl.leavePending = true := by decide

/-- 10, R175. -/
theorem test_clear_counters :
    (after .clearCounters { inState .online with
      link := { resetLink with rxErrors := 65535#16 } }).link.rxErrors = 0#16 := by decide

/-- 10, R170. -/
theorem test_unknown_command :
    (after (.unknownCommand 0x07#8) (inState .online)).host.result = .badArgument := by decide

/-- 10, 10.8 steps 4 and 6: a byte at 58H is stored in SETUP, and refused in SEEDING. -/
theorem test_setup_window_write :
    (after (.setupWindowWrite 0x28#8) (transaction .write false 0x59#7 (inState .setup))).ctrl.block[0x19]
      = 0x28#8
    ∧ (after (.setupWindowWrite 0x3C#8) (transaction .write false 0x58#7 (inState .seeding))).host.result
      = .refusedState := by decide

/-- 10, 10.8 step 7: the cursor on group 2. -/
theorem test_cursor_write :
    let s := after (.cursorWrite 0x02#8) (after (.cursorWrite 0x01#8)
      (transaction .write false 0x03#7 (inState .seeding)))
    s.host.cursorKind = 1#8 ∧ s.host.cursorIndex = 2#8 ∧ s.host.index = 0x05#7 := by decide

/-- 10, R164: the index byte, and the wrap from 7FH to 00H. -/
theorem test_register_write :
    (after (.registerWrite 0xC0#8) (transaction .write true 0x00#7 (inState .setup))).host.index = 0x40#7
    ∧ (after (.setupWindowWrite 0x00#8) (transaction .write false 0x7F#7 (inState .setup))).host.index
      = 0x00#7 := by decide

/-- 10, 10.8 step 8: group 2 FREE, with absent markers. -/
theorem test_record_window_read :
    let s := transaction .read false 0x12#7 (inState .seeding)
    (after (.recordWindowRead true) { s with
      host := { s.host with cursorKind := 1#8, cursorIndex := 2#8 } }).host.byteSent = some 0xFF#8 := by decide

/-- 11, R182: the empty log's marker. -/
theorem test_event_window_read :
    (after (.eventWindowRead true) (transaction .read false 0x20#7 (inState .online))).host.byteSent
      = some 0xFF#8 := by decide

/-- 10, R169: the high byte of the cycle counter, latched, and 11, R181: status 60H in BRISK ONLINE. -/
theorem test_value_latch_read :
    let s := transaction .read false 0x28#7 (inState .online)
    (after (.valueLatchRead true) { s with front := { s.front with cycle := 0x1234#16 } }).host.latches.cycle
      = some 0x1234#16
    ∧ (after (.valueLatchRead true) (transaction .read false 0x00#7 (inState .online))).host.byteSent
      = some 0x60#8 := by decide

/-- 05, R87. -/
theorem test_line_idle :
    (after .lineIdle { inState .listen with link := { resetLink with line := .seeking 9 } }).link.line
      = .idle := by decide

/-- 05, R87. -/
theorem test_start_bit :
    (after .startBitRead { inState .listen with link := { resetLink with line := .idle } }).link.line
      = .receiving [false] := by decide

/-- 05, R87: the ninth recessive bit counts, the tenth makes the line IDLE, a dominant bit in a run sets
it to 0, and one in IDLE is a start bit. -/
theorem test_idle_reads_bits :
    let on := fun (line : Line) (level : Bool) =>
      (idle { inState .listen with link := { resetLink with line := line }, wire := [level] }).link.line
    on (.seeking 8) true = .seeking 9 ∧ on (.seeking 9) true = .idle ∧ on (.seeking 9) false = .seeking 0
      ∧ on .idle false = .receiving [false] ∧ on (.receiving [false]) true = .receiving [false, true] := by
  decide

/-- 05, R87, R94: the start bit read of an own attempt is its first bit, and the next bit read is the
second of the frame in assembly. -/
theorem test_own_start_bit :
    let s := after .startBitRead (sendingFrame .pulse (.pulse 12 (briskPulse false [])) (station 12 .online))
    s.link.line = .receiving [false] ∧ s.link.attempt.map Attempt.bit = some 2
      ∧ (idle s).link.line = .receiving [false, true] ∧ (idle s).link.attempt.map Attempt.bit = some 3 := by
  decide

/-- 05, R94: a bit sent recessive and read dominant ends the attempt there; whatever is read next, the
loss is taken at that bit and no success or other end is. -/
theorem test_differing_bit_is_kept :
    let f := Frame.pulse 12 (briskPulse false [])
    let s := after .startBitRead (sendingFrame .pulse f (station 12 .online))
    let u := idle (idle { s with wire := [false, true] })
    u.link.line = .receiving [false, false] ∧ u.wire = [true]
      ∧ (after (.frameHeard f) u).link.attempt.isSome = true
      ∧ (after (.lossOfArbitration 3) u).link.attempt.isSome = true
      ∧ (after (.lossOfArbitration 2) u).link.attempt = none := by decide

/-- 07, R123: a frame of the peer taken first leaves no expiry; R131: nor does local activity. -/
theorem test_expiry_after_restart :
    (after (.lastHeardTimerExpiry 3) { station 12 .online with roster := State.reset.roster.set 3 {
      present := true, lastHeard := some 150000, announced := none } }).roster[3].present = true
    ∧ (after .quietTimerExpiry { inState .online with
      cad := { resetCadence with quiet := .running 20000000 } }).cad.cadence = .brisk := by decide

/-- 10, R165: after a byte left unacknowledged SDA is released and nothing more is sent. -/
theorem test_unacknowledged_byte :
    let s := after (.valueLatchRead false) (transaction .read false 0x02#7 (inState .online))
    s.host.sda = .released ∧ s.host.byteSent = some 0x00#8 ∧ after (.valueLatchRead true) s = s := by decide

/-- 08, R136. -/
theorem test_reset_asserted : (after .resetAsserted (inState .online)).inReset = true := by decide

/-! ### Each statement's hypotheses are met

One theorem per statement that has hypotheses: a state and operands that meet them together, and for a
statement of several clauses a case of each, at a boundary of its range. -/

theorem witness_StepRunsFrontCommand :
    ({ State.reset with pending := [.join] } : State).pending = .join :: [] := by decide

theorem witness_IdleStepIsOneBitTime :
    ({ State.reset with inReset := true } : State).pending = []
    ∧ ({ State.reset with inReset := true } : State).inReset = true
    ∧ 1000 ≤ ({ State.reset with sinceTick := 1000 } : State).sinceTick
    ∧ ({ State.reset with sinceTick := 999 } : State).inReset = false
    ∧ ({ State.reset with sinceTick := 999 } : State).sinceTick < 1000
    ∧ bitsRead State.reset.link.line = []
    ∧ (let a := attemptOf .pulse (.pulse 12 (briskPulse false []))
      let s := { sendingFrame .pulse a.frame (station 12 .online) with
        link := { (station 12 .online).link with line := .receiving [false], attempt := some a } }
      s.pending = [] ∧ s.link.line = .receiving [false] ∧ s.link.attempt = some a
        ∧ a.bit ≤ [false].length)
    ∧ (let u := { inState .listen with link := { resetLink with
        line := .receiving [false, true, true, true] } }
      u.pending = [] ∧ u.link.attempt = none
        ∧ judge [false, true, true, true] = .discarded 0) := by decide

theorem witness_HeldInResetNothingActs : Instr.join ≠ .resetAsserted := by decide

theorem witness_ScanProceedsAfterEachConversion :
    let s := ch6 (record 6 .idle 1800)
    let u := { s with front := { s.front with scanList := [] ++ Slot.channel 6 :: Slot.channel 7 :: [] } }
    let v := { s with front := { s.front with conversion := some (.channel 6, 1) } }
    s.inReset = false ∧ 4095 ≤ 4095 ∧ s.front.conversion = some (.channel 6, 0)
      ∧ Slot.channel 6 ∉ ([] : List Slot) ∧ s.front.scanList = [] ++ [Slot.channel 6]
      ∧ u.inReset = false ∧ u.front.conversion = some (.channel 6, 0)
      ∧ u.front.scanList = [] ++ Slot.channel 6 :: Slot.channel 7 :: []
      ∧ v.inReset = false ∧ v.front.conversion = some (.channel 6, 1) ∧ 0 < 1 := by decide

/-- A wait phase with its timer at its end. -/
def waiting (slots : List Slot) : State :=
  { inState .online with front := {
      scanList := slots, phase := some .wait, position := none, conversion := none, waitTimer := some 0
      cycle := 0#16 } }

/-- The same one microsecond earlier. -/
def waitingStill : State :=
  { waiting [] with front := { (waiting []).front with waitTimer := some 1 } }

theorem witness_WaitExpiryBeginsAScanPhase :
    (waiting [.channel 6]).inReset = false ∧ (waiting [.channel 6]).front.waitTimer = some 0
    ∧ (waiting [.channel 6]).front.scanList = .channel 6 :: [] ∧ (waiting []).inReset = false
    ∧ (waiting []).front.waitTimer = some 0 ∧ (waiting []).front.scanList = []
    ∧ waitingStill.inReset = false ∧ waitingStill.front.waitTimer = some 1 ∧ 0 < 1 := by decide

theorem witness_SeedingTakesSixteenCounts :
    let s := ch6 { record 6 .seeding 1785 with seed := some (26999, 15), rail := 14 }
    let u := { s with ctrl := { s.ctrl with state := .seeding } }
    s.inReset = false ∧ 4095 ≤ 4095 ∧ s.front.conversion = some (.channel 6, 0)
      ∧ s.chans[6].state = .seeding ∧ s.chans[6].seed = some (26999, 15)
      ∧ railAfter s.chans[6].rail 4095 < 16
      ∧ u.inReset = false ∧ u.front.conversion = some (.channel 6, 0) ∧ u.chans[6].state = .seeding
      ∧ u.chans[6].seed = some (26999, 15) ∧ railAfter u.chans[6].rail 1797 < 16
      ∧ (after (.conversionCompletion 1797) u).ctrl.state = .listen := by decide

theorem witness_IdleRecordTracksSlowChange :
    let s := ch6 (record 6 .idle 1802)
    let u := { s with tracker := { s.tracker with hushed := true } }
    s.inReset = false ∧ 1763 ≤ 4095 ∧ s.front.conversion = some (.channel 6, 0)
      ∧ s.chans[6].state = .idle ∧ s.chans[6].baseline = some 1802
      ∧ railAfter s.chans[6].rail 1763 < 16
      ∧ (s.ctrl.state = .seeding → ∃ d : Channel, s.chans[d].state = .seeding)
      ∧ (1802 : Int) - (1763 : Nat) < s.chans[6].setup.touchThreshold
      ∧ u.inReset = false ∧ u.chans[6].state = .idle ∧ u.tracker.hushed = true := by decide

theorem witness_TouchArmsAndStirs :
    let s := ch6 (record 6 .idle 1802)
    s.inReset = false ∧ 1762 ≤ 4095 ∧ s.front.conversion = some (.channel 6, 0)
      ∧ s.chans[6].state = .idle ∧ s.chans[6].baseline = some 1802
      ∧ railAfter s.chans[6].rail 1762 < 16 ∧ s.tracker.hushed = false
      ∧ (s.chans[6].setup.touchThreshold : Int) ≤ (1802 : Int) - (1762 : Nat)
      ∧ 2 ≤ s.tracker.settings.touchDebounce
      ∧ ({ s with tracker := { s.tracker with settings := { s.tracker.settings with
          touchDebounce := 1 } } } : State).tracker.settings.touchDebounce ≤ 1
      ∧ (s.ctrl.state = .seeding → ∃ d : Channel, s.chans[d].state = .seeding) := by decide

theorem witness_ArmingQualifiesATouch :
    let s := ch6 { record 6 .arming 1802 with touchDebounce := 2 }
    s.inReset = false ∧ 1762 ≤ 4095 ∧ s.front.conversion = some (.channel 6, 0)
      ∧ s.chans[6].state = .arming ∧ s.chans[6].baseline = some 1802
      ∧ railAfter s.chans[6].rail 1762 < 16
      ∧ (s.ctrl.state = .seeding → ∃ d : Channel, s.chans[d].state = .seeding) := by decide

theorem witness_LiftIsDebouncedAndReleases :
    let at_ := fun st : ChanState => ch6 { record 6 st 1802 with liftDebounce := 2 }
    let s := at_ .pressed
    let flying := fun (st : ChanState) (f : GroupFrame) =>
      sendingFrame (.group 6) (.claim 47 0 6 6) (queued 6 f (at_ st))
    s.inReset = false ∧ 1773 ≤ 4095 ∧ s.front.conversion = some (.channel 6, 0)
      ∧ s.chans[6].baseline = some 1802 ∧ railAfter s.chans[6].rail 1773 < 16
      ∧ (s.ctrl.state = .seeding → ∃ d : Channel, s.chans[d].state = .seeding)
      ∧ (1802 : Int) - (1773 : Nat) < s.chans[6].setup.releaseThreshold
      ∧ ¬ (1802 : Int) - (1772 : Nat) < s.chans[6].setup.releaseThreshold
      ∧ s.tracker.settings.liftDebounce ≤ s.chans[6].liftDebounce + 1
      ∧ ¬ s.tracker.settings.liftDebounce ≤ (record 6 .suppressed 1802).liftDebounce + 1
      ∧ (∀ st ∈ [ChanState.pressed, .suppressed, .candidate, .contending],
          claimSide (at_ st).chans[6].state = true ∧ (at_ st).chans[6].baseline = some 1802
            ∧ (at_ st).ctrl.state = .online ∧ LeavesByTable (at_ st) 6)
      ∧ LeavesByTable (queued 6 (.claim 6) (at_ .candidate)) 6
      ∧ LeavesByTable (flying .candidate (.claim 6)) 6
      ∧ LeavesByTable (queued 6 (.confirm 6) (at_ .contending)) 6
      ∧ LeavesByTable (flying .contending (.confirm 6)) 6
      ∧ LeavesByTable (queued 6 (.claim 14) (at_ .contending)) 6
      ∧ LeavesByTable (flying .contending (.claim 14)) 6 := by decide

theorem witness_SixteenRailCountsFaultAChannel :
    let at_ := fun st : ChanState => ch6 { record 6 st 1802 with rail := 15 }
    let s := at_ .pressed
    let u := { convertingSlot (.channel 6) (inState .seeding) with
      chans := State.reset.chans.set 6 { record 6 .seeding 1802 with rail := 15, seed := some (0, 15) } }
    s.inReset = false ∧ (4095 = 0 ∨ 4095 = 4095) ∧ s.front.conversion = some (.channel 6, 0)
      ∧ s.chans[6].state ≠ .off ∧ s.chans[6].state ≠ .faulted ∧ 16 ≤ s.chans[6].rail + 1
      ∧ s.ctrl.state ≠ .seeding ∧ LeavesByTable s 6
      ∧ LeavesByTable (queued 6 (.claim 6) (at_ .candidate)) 6
      ∧ LeavesByTable (queued 6 (.confirm 6) (at_ .contending)) 6
      ∧ LeavesByTable (sendingFrame (.group 6) (.confirm 0 6 6)
          (queued 6 (.confirm 6) (at_ .contending))) 6
      ∧ u.inReset = false ∧ u.front.conversion = some (.channel 6, 0) ∧ u.chans[6].state = .seeding
      ∧ 16 ≤ u.chans[6].rail + 1 ∧ u.ctrl.state = .seeding ∧ LeavesByTable u 6 := by decide

theorem witness_FaultedChannelRecoversInRange :
    let s := ch6 { record 6 .faulted 1802 with inRange := some 15 }
    s.inReset = false ∧ 4094 ≤ 4095 ∧ s.front.conversion = some (.channel 6, 0)
      ∧ s.chans[6].state = .faulted ∧ s.chans[6].inRange = some 15
      ∧ (s.ctrl.state = .seeding → ∃ d : Channel, s.chans[d].state = .seeding) := by decide

theorem witness_ReferenceHushesAndSettles :
    let s := reference (record 7 .idle 2000)
    let u := { s with tracker := { s.tracker with hushed := true, settle := some 7 } }
    let seeds := reference { record 7 .seeding 2000 with seed := some (31000, 15) }
    let rails := reference { record 7 .idle 2000 with rail := 15 }
    let faulted := reference { record 7 .faulted 2000 with inRange := some 15 }
    let claims := queued 1 (.claim 9) (s.setChan 9 (record 1 .candidate 2000))
    let flies := sendingFrame (.group 1) (.claim 70 0 1 9) claims
    s.inReset = false ∧ 2065 ≤ 4095 ∧ s.front.conversion = some (.reference, 0)
      ∧ s.tracker.settings.refHost = some 15 ∧ s.chans[15].state = .idle
      ∧ s.chans[15].baseline = some 2000 ∧ railAfter s.chans[15].rail 2065 < 16
      ∧ (s.ctrl.state = .seeding → ∃ d : Channel, s.chans[d].state = .seeding)
      ∧ s.tracker.hushed = false ∧ s.tracker.settings.hushLimit < (2065 - 2000) + (2000 - 2065)
      ∧ (2064 - 2000) + (2000 - 2064) ≤ s.tracker.settings.hushLimit
      ∧ (∀ d : Channel, s.chans[d].state ≠ .candidate)
      ∧ u.inReset = false ∧ u.front.conversion = some (.reference, 0) ∧ u.tracker.hushed = true
      ∧ seeds.front.conversion = some (.reference, 0) ∧ seeds.chans[15].state = .seeding
      ∧ seeds.chans[15].seed = some (31000, 15)
      ∧ rails.front.conversion = some (.reference, 0) ∧ rails.chans[15].state ≠ .off
      ∧ rails.chans[15].state ≠ .faulted ∧ 16 ≤ rails.chans[15].rail + 1
      ∧ faulted.front.conversion = some (.reference, 0) ∧ faulted.chans[15].state = .faulted
      ∧ faulted.chans[15].inRange = some 15
      ∧ claims.ctrl.state = .online ∧ claims.queue.groups[1] = { frame := some (.claim 9), followUp := none }
      ∧ claims.chans[9].state = .candidate ∧ claims.chans[9].setup.group = 1
      ∧ flies.queue.inFlight = some (.group 1) ∧ flies.queue.withdrawnInFlight = false := by
  decide

/-! #### Frames heard -/

theorem receives_started (f : Frame) (hf : f.wellFormed = true)
    (hb : [false].isPrefixOf (frameBits f) = true) (s : State) (hr : s.inReset = false)
    (hs : receiving s.ctrl.state = true) (ha : s.link.attempt = none) : Receives f (started s) :=
  ⟨hr, hs, ha, hf, [false], rfl, hb⟩

/-- Station 9 holds group 2 in a contest with CH10, and its CONFIRM is queued. -/
def contestOfNine : State :=
  started (queued 2 (.confirm 10) (entry 2 (.contested { station := 9, channel := 10 } 45 200000 none)
    ((station 9 .online).setChan 10 (record 2 .contending 2000))))

theorem witness_PeerClaimTakesDisplacesOrIsRefused :
    Receives (.claim 46 3 2 2) contestOfNine ∧ (3 : Station) ≠ contestOfNine.number
    ∧ contestOfNine.table.entries[2] =
      .contested { station := contestOfNine.number, channel := 10 } 45 200000 none
    ∧ 45 < 46 ∧ contestOfNine.chans[10].state = .contending
    ∧ contestOfNine.queue.inFlight ≠ some (.group 2)
    ∧ (contestOfNine.queue.groups[2].frame.all fun f => decide (frameChannel f = 10)) = true :=
  ⟨receives_started _ (by decide) (by decide) _ (by decide) (by decide) (by decide), by decide⟩

theorem witness_PeerConfirmAndReleaseSettleAGroup :
    let s := entry 2 (.contested { station := 3, channel := 2 } 70 1 none) (station 12 .online)
    (3 : Station) ≠ (started s).number ∧ Receives (.confirm 3 2 2) (started s)
      ∧ Receives (.release 3 2 2 .fault) (started s)
      ∧ entryHolder (started s).table.entries[2] = some { station := 3, channel := 2 } :=
  ⟨by decide, receives_started _ (by decide) (by decide) _ (by decide) (by decide) (by decide),
    receives_started _ (by decide) (by decide) _ (by decide) (by decide) (by decide), by decide⟩

theorem witness_RecalHeardEmptiesAndReseeds :
    let s := (station 4 .online).setChan 14 (record 6 .candidate 1800)
    let own := sendingFrame .recal (.recal 4) s
    (∀ c : Channel, (started s).chans[c].state = .candidate → (started s).isKey c = true)
      ∧ Receives (.recal 3) (started s) ∧ (3 : Station) ≠ (started s).number
      ∧ (∀ c : Channel, own.chans[c].state = .candidate → own.isKey c = true)
      ∧ Sends { slot := .recal, frame := .recal 4, bit := 1, phase := .arbitrating } own
      ∧ own.number = 4 :=
  ⟨by decide, receives_started _ (by decide) (by decide) _ (by decide) (by decide) (by decide), by decide⟩

/-- 03, 3.16: station 9 holds group 5 with CH13, PRESSED. -/
def splitOfNine : State :=
  started (entry 5 (.owned { station := 9, channel := 13 } 50 0#16)
    ((station 9 .online).setChan 13 (record 5 .pressed 2000)))

theorem witness_PulseRepairsTheClaimTable :
    Receives (.pulse 3 (briskPulse false [(5, 5)])) splitOfNine ∧ (3 : Station) ≠ splitOfNine.number
    ∧ (briskPulse false [(5, 5)]).leaving = false
    ∧ (briskPulse false [(5, 5)]).holdings.find? (fun pair => decide (pair.1 = 4)) = none
    ∧ (briskPulse false [(5, 5)]).holdings.find? (fun pair => decide (pair.1 = 5)) = some (5, 5)
    ∧ (3 : Station) < splitOfNine.number
    ∧ entryHolder splitOfNine.table.entries[5] = some { station := splitOfNine.number, channel := 13 }
    ∧ splitOfNine.chans[13].state = .pressed ∧ splitOfNine.queue.inFlight ≠ some (.group 5) :=
  ⟨receives_started _ (by decide) (by decide) _ (by decide) (by decide) (by decide), by decide⟩

/-- 03, 3.16: the repair of group 5 at station 9, with KEY-UP before KEY-DOWN. -/
theorem test_split_repaired :
    let s := after (.frameHeard (.pulse 3 (briskPulse false [(5, 5)]))) splitOfNine
    s.table.entries[5] = .owned { station := 3, channel := 5 } 0 0#16 ∧ s.chans[13].state = .suppressed
      ∧ s.log.records.map Record.event = [.peerJoined 3, .keyUp { station := 9, channel := 13 } 5 .resync,
        .keyDown { station := 3, channel := 5 } 5 0 .adopted] := by decide

theorem witness_PeerPulseKeepsTheRoster :
    let s := { station 9 .online with roster := State.reset.roster.set 3 {
      present := true, lastHeard := some 1, announced := none } }
    Receives (.pulse 3 (briskPulse true [])) (started s) ∧ (3 : Station) ≠ (started s).number
      ∧ (briskPulse true []).leaving = true ∧ (started s).roster[3].present = true
      ∧ (started (station 9 .online)).roster[3].present = false
      ∧ (briskPulse false []).leaving = false :=
  ⟨receives_started _ (by decide) (by decide) _ (by decide) (by decide) (by decide), by decide⟩

theorem witness_TwinFrameHaltsTheStation :
    Receives (.pulse 7 (briskPulse false [])) (started (station 7 .listen))
    ∧ senderOf (.pulse 7 (briskPulse false [])) = (started (station 7 .listen)).number :=
  ⟨receives_started _ (by decide) (by decide) _ (by decide) (by decide) (by decide), by decide⟩

/-! #### This station's own frames -/

theorem witness_OwnClaimMakesItsChannelContend :
    let a := attemptOf (.group 2) (.claim 70 3 2 2)
    let s := sendingFrame (.group 2) (.claim 70 3 2 2)
      (queued 2 (.claim 2) ((station 3 .online).setChan 2 (record 2 .candidate 2000)))
    let u := entry 2 (.owned { station := 9, channel := 10 } 45 0#16) s
    let v := entry 2 (.guarded 24000) s
    let w := entry 2 (.contested { station := 9, channel := 10 } 69 1 none) s
    let x := entry 2 (.contested { station := 9, channel := 10 } 70 1 none) s
    Sends a s ∧ s.ctrl.state = .online ∧ s.number = 3 ∧ a.slot = .group 2
      ∧ s.chans[2].state = .candidate ∧ s.table.entries[2] = .free
      ∧ s.queue.groups[2] = { frame := some (.claim 2), followUp := none }
      ∧ Sends a u ∧ u.table.entries[2] = .owned { station := 9, channel := 10 } 45 0#16
      ∧ Sends a v ∧ v.table.entries[2] = .guarded 24000
      ∧ Sends a w ∧ w.table.entries[2] = .contested { station := 9, channel := 10 } 69 1 none
      ∧ Sends a x ∧ x.table.entries[2] = .contested { station := 9, channel := 10 } 70 1 none
      ∧ ({ station := 9, channel := 10 } : Holder) ≠ { station := 3, channel := 2 }
      ∧ 69 < 70 ∧ ¬ 70 < 70 := by decide

theorem witness_OwnClaimMakesItsChannelContend_ownHolder :
    let a := attemptOf (.group 2) (.claim 70 3 2 2)
    let s := sendingFrame (.group 2) (.claim 70 3 2 2)
      (queued 2 (.claim 2) ((station 3 .online).setChan 2 (record 2 .candidate 2000)))
    let held := entry 2 (.contested { station := 3, channel := 10 } 69 1 none)
      (s.setChan 10 (record 2 .contending 2000))
    let equal := entry 2 (.contested { station := 3, channel := 10 } 70 1 none) held
    Sends a held ∧ held.chans[10].state = .contending
      ∧ held.table.entries[2] = .contested { station := 3, channel := 10 } 69 1 none
      ∧ entryHolder held.table.entries[2] = some { station := 3, channel := 10 }
      ∧ held.chans[2].state ≠ .contending
      ∧ Sends a equal ∧ equal.chans[10].state = .contending
      ∧ equal.table.entries[2] = .contested { station := 3, channel := 10 } 70 1 none
      ∧ equal.queue.groups[2] = { frame := some (.claim 2), followUp := none } := by decide

theorem witness_OwnClaimMakesItsChannelContend_followUps :
    let a := attemptOf (.group 2) (.claim 70 3 2 2)
    let behind := fun (c : Channel) (t : State) => { t with
      queue := setSlot t.queue 2 { frame := some (.claim 2), followUp := some (c, .withdrawn) } }
    let s := sendingFrame (.group 2) (.claim 70 3 2 2)
      (queued 2 (.claim 2) ((station 3 .online).setChan 2 (record 2 .candidate 2000)))
    let held := behind 10 (entry 2 (.contested { station := 3, channel := 10 } 69 1 none)
      (s.setChan 10 (record 2 .contending 2000)))
    let left := behind 2 (s.setChan 2 (record 2 .idle 2000))
    Sends a held ∧ Sends a left ∧ left.chans[2].state ≠ .candidate
      ∧ left.queue.withdrawnInFlight = false
      ∧ held.queue.groups[2] = { frame := some (.claim 2), followUp := some (10, .withdrawn) }
      ∧ left.queue.groups[2] = { frame := some (.claim 2), followUp := some (2, .withdrawn) } := by decide

theorem witness_OwnConfirmPressesItsChannel :
    let s := sendingFrame (.group 2) (.confirm 3 2 2) (queued 2 (.confirm 2)
      (entry 2 (.contested { station := 3, channel := 2 } 70 1 none)
        ((station 3 .online).setChan 2 (record 2 .contending 2000))))
    let u := sendingFrame (.group 2) (.release 3 2 2 .withdrawn) (queued 2 (.release 2 .withdrawn)
      (entry 2 (.owned { station := 3, channel := 2 } 70 0#16) (station 3 .online)))
    let v := entry 2 (.guarded 1) u
    Sends (attemptOf (.group 2) (.confirm 3 2 2)) s ∧ s.number = 3
      ∧ s.table.entries[2] = .contested { station := s.number, channel := 2 } 70 1 none
      ∧ s.queue.withdrawnInFlight = false ∧ s.chans[2].state = .contending
      ∧ (s.setChan 2 (record 2 .idle 2000)).chans[2].state = .idle
      ∧ Sends (attemptOf (.group 2) (.release 3 2 2 .withdrawn)) u ∧ u.number = 3
      ∧ u.queue.withdrawnInFlight = false ∧ u.queue.groups[2].followUp = none
      ∧ entryHolder u.table.entries[2] = some { station := 3, channel := 2 }
      ∧ (let x := { u with queue := { u.queue with withdrawnInFlight := true } }
        Sends (attemptOf (.group 2) (.release 3 2 2 .withdrawn)) x ∧ x.queue.withdrawnInFlight = true)
      ∧ (let x := entry 2 .free { s with queue := { s.queue with withdrawnInFlight := true } }
        Sends (attemptOf (.group 2) (.confirm 3 2 2)) x
          ∧ isContestOf { station := 3, channel := 2 } x.table.entries[2] = false)
      ∧ Sends (attemptOf (.group 2) (.release 3 2 2 .withdrawn)) v
      ∧ entryHolder v.table.entries[2] ≠ some { station := 3, channel := 2 } := by decide

theorem witness_OwnPulseSuccessStartsTheInterval :
    let s := sendingFrame .pulse (.pulse 8 (briskPulse false [])) (station 8 .online)
    let u := sendingFrame .pulse (.pulse 8 (briskPulse true [])) (station 8 .online)
    Sends (attemptOf .pulse (.pulse 8 (briskPulse false []))) s ∧ s.ctrl.state = .online ∧ s.number = 8
      ∧ Sends (attemptOf .pulse (.pulse 8 (briskPulse true []))) u ∧ u.ctrl.state = .online := by decide

/-! #### Bits and attempts -/

theorem witness_FramesReadBackAsSent :
    (Frame.claim 1023 15 7 15).WellFormed ∧ (Frame.claim 1 0 0 0).WellFormed := by decide

theorem witness_WrongChecksAreDiscarded :
    (Frame.recal 5).WellFormed ∧ 1 ≤ 22 ∧ 22 < (frameBits (.recal 5)).length
    ∧ (0x1A#8 : BitVec 8) ≠ checkOf (coveredBits (.recal 5)) ∧ 0 < 7 ∧ 9 ≤ 15 ∧ 5 ≤ 7 := by decide

theorem witness_DiscardCountsOneReceiveError :
    let s := started (inState .listen)
    s.inReset = false ∧ s.link.attempt = none ∧ s.link.line = .receiving [false]
      ∧ [false].isPrefixOf [false, true, true, false] = true
      ∧ judge [false, true, true, false] = .discarded 0 ∧ (true = true ∨ false = true) := by decide

theorem witness_AttemptStartsOnTheFirstSlot :
    let s := { queued 2 (.claim 2) ((station 3 .online).setChan 2
      { record 2 .candidate 2000 with delta := some 1024 }) with link := { resetLink with line := .idle } }
    s.inReset = false ∧ s.ctrl.state = .online ∧ s.link.line = .idle ∧ s.link.attempt = none
      ∧ slotHeld s.queue (.group 2) = true ∧ s.queue.groups[2].frame = some (.claim 2)
      ∧ s.chans[2].delta = some 1024 := by decide

theorem witness_AttemptFailureCountsAndMutes :
    let s := sendingFrame .recal (.recal 6) (station 6 .online)
    let u := { s with link := { s.link with consecutive := 15 } }
    let v := { u with ctrl := { u.ctrl with leavePending := true } }
    let w := sendingFrame (.group 1) (.release 9 1 4 .lift) (queued 1 (.release 4 .lift) (station 9 .online))
    let x := { s with link := { s.link with line := .receiving [true] } }
    EndsAt (attemptOf .recal (.recal 6)) 23 s ∧ EndsAt (attemptOf .recal (.recal 6)) 1 s
      ∧ EndsAt (attemptOf .recal (.recal 6)) 1 x ∧ s.ctrl.state = .online
      ∧ 1 ≤ 23 ∧ 23 ≤ (frameBits (.recal 6)).length ∧ arbitrationEnd (.recal 6) < 23
      ∧ (frameBits (.recal 6))[1 - 1]? = some false ∧ s.link.consecutive + 1 < 16
      ∧ 16 ≤ u.link.consecutive + 1 ∧ u.ctrl.leavePending = false
      ∧ 16 ≤ v.link.consecutive + 1 ∧ v.ctrl.leavePending = true
      ∧ EndsAt (attemptOf (.group 1) (.release 9 1 4 .lift)) 1 w ∧ w.ctrl.state = .online ∧ w.link.consecutive + 1 < 16 := by decide

theorem witness_ArbitrationLossKeepsReceiving :
    let f := Frame.pulse 12 (briskPulse false [])
    let s := sendingFrame .pulse f (station 12 .online)
    let q := { frame := some (GroupFrame.claim 10), followUp := some (10, Reason.withdrawn) : GroupSlot }
    let u := sendingFrame (.group 2) (.claim 45 9 2 10) { station 9 .online with
      queue := setSlot emptyQueue 2 q }
    EndsAt (attemptOf .pulse f) 2 s ∧ 2 ≤ 2
      ∧ EndsAt (attemptOf .pulse f) 2 { s with link := { s.link with line := .receiving [false, false] } }
      ∧ 2 ≤ arbitrationEnd f ∧ (frameBits f)[2 - 1]? = some true
      ∧ EndsAt (attemptOf (.group 2) (.claim 45 9 2 10)) 5 u
      ∧ 5 ≤ arbitrationEnd (.claim 45 9 2 10)
      ∧ (frameBits (.claim 45 9 2 10))[5 - 1]? = some true
      ∧ u.ctrl.state = .online := by decide

theorem witness_LineTurnsIdleAndTakesAStartBit :
    let s := { inState .listen with link := { resetLink with line := .seeking 9 } }
    let u := { inState .listen with link := { resetLink with line := .idle } }
    let v := { inState .listen with link := { resetLink with line := .seeking 8 } }
    s.inReset = false ∧ s.link.line = .seeking 9 ∧ 9 ≤ 9 ∧ u.inReset = false ∧ u.link.line = .idle
      ∧ u.link.attempt = none ∧ v.inReset = false ∧ v.link.line = .seeking 8 ∧ 8 < 9
      ∧ (let w := sendingFrame .recal (.recal 6) (station 6 .online)
        w.inReset = false ∧ w.link.line = .idle ∧ w.link.attempt = some (attemptOf .recal (.recal 6))
          ∧ (attemptOf .recal (.recal 6)).bit = 1) := by decide

/-! #### Timers -/

theorem witness_ContestExpiryRequestsTheConfirm :
    let s := fun left => entry 2 (.contested { station := 3, channel := 2 } 70 1 (some left)) (station 3 .online)
    (s 0).inReset = false
      ∧ (s 0).table.entries[2] = .contested { station := 3, channel := 2 } 70 1 (some 0)
      ∧ (s 1).inReset = false
      ∧ (s 1).table.entries[2] = .contested { station := 3, channel := 2 } 70 1 (some 1) ∧ 0 < 1 := by decide

theorem witness_AbandonExpiryFreesTheGroup :
    let s := queued 2 (.confirm 2) (entry 2 (.contested { station := 3, channel := 2 } 70 0 none)
      ((station 3 .online).setChan 2 (record 2 .contending 2000)))
    let u := sendingFrame (.group 2) (.confirm 3 2 2) s
    s.inReset = false ∧ s.table.entries[2] = .contested { station := 3, channel := 2 } 70 0 none
      ∧ s.number = 3 ∧ s.chans[2].state = .contending ∧ s.queue.inFlight ≠ some (.group 2)
      ∧ (s.queue.groups[2].frame.all fun f => decide (frameChannel f = 2)) = true
      ∧ u.inReset = false ∧ u.table.entries[2] = s.table.entries[2]
      ∧ u.queue.inFlight = some (.group 2) ∧ u.queue.groups[2].frame = some (.confirm 2)
      ∧ (queued 2 (.release 2 .withdrawn) u).queue.groups[2].frame = some (.release 2 .withdrawn)
      ∧ frameChannel (.release 2 .withdrawn) = 2 ∧ frameChannel (.confirm 2) = 2
      ∧ (entry 2 (.contested { station := 3, channel := 2 } 70 1 none) s).table.entries[2]
        = .contested { station := 3, channel := 2 } 70 1 none ∧ 0 < 1 := by decide

theorem witness_GuardExpiryClaimsForTheStrongest :
    let s := entry 2 (.guarded 0) ((station 3 .online).setChan 2
      { record 2 .candidate 2000 with delta := some 70 })
    let which := fun g : Group => decide (g = 2)
    s.inReset = false ∧ s.table.entries[2] = .guarded 0 ∧ s.ctrl.state = .online
      ∧ s.queue.groups[2].frame = none
      ∧ (entry 2 (.guarded 1) s).table.entries[2] = .guarded 1 ∧ 0 < 1
      ∧ (entry 2 (.guarded 0) (inState .muted)).table.entries[2] = .guarded 0
      ∧ (inState .muted).ctrl.state ≠ .online
      ∧ (queued 2 (.release 3 .lift) s).queue.groups[2].frame ≠ none
      ∧ which 2 = true ∧ which 3 = false := by decide

theorem witness_HoldExpirySeedsAndReleasesStuck :
    let s := (station 4 .online).setChan 9 { record 1 .pressed 1800 with holdTimer := some 0 }
    let u := s.setChan 9 { record 1 .pressed 1800 with holdTimer := some 1 }
    s.inReset = false ∧ s.chans[9].state = .pressed ∧ s.chans[9].holdTimer = some 0
      ∧ u.chans[9].state = .pressed ∧ u.chans[9].holdTimer = some 1 ∧ 0 < 1
      ∧ s.ctrl.state = .online ∧ s.queue.groups[1] = emptySlot ∧ s.queue.inFlight ≠ some (.group 1)
      ∧ (station 4 .listen).ctrl.state ≠ .online := by decide

theorem witness_IntervalExpiryRequestsAPulse :
    let s := { inState .online with queue := { emptyQueue with intervalTimer := some 0 } }
    let u := { inState .online with queue := { emptyQueue with intervalTimer := some 1 } }
    s.inReset = false ∧ s.queue.intervalTimer = some 0
      ∧ u.inReset = false ∧ u.queue.intervalTimer = some 1 ∧ 0 < 1 := by decide

theorem witness_SilentPeerIsLost :
    let s := entry 2 (.owned { station := 3, channel := 2 } 70 0#16)
      { station 12 .online with roster := State.reset.roster.set 3 {
        present := true, lastHeard := some 0, announced := none } }
    s.inReset = false ∧ s.roster[3].present = true ∧ s.roster[3].lastHeard = some 0
      ∧ (s.setRoster 3 { present := true, lastHeard := some 1, announced := none }).roster[3].lastHeard
        = some 1 ∧ 0 < 1
      ∧ (entryHolder s.table.entries[1]).all (fun h => decide (h.station ≠ 3)) = true := by decide

theorem witness_QuietExpiryTurnsSlack :
    let s := { inState .online with cad := { resetCadence with quiet := .running 0 } }
    let u := fun q => { inState .online with cad := { resetCadence with quiet := q } }
    s.inReset = false ∧ s.cad.quiet = .running 0 ∧ (u (.running 1)).inReset = false
      ∧ (u (.running 1)).cad.quiet = .running 1 ∧ 0 < 1 ∧ (u .held).cad.quiet = .held := by decide

theorem witness_TickAdvancesTheClock : State.reset.inReset = false := by decide

/-! #### Station life and the commands -/

theorem witness_SetupHoldExpiryValidatesTheBlock :
    let s := { inState .setup with ctrl := { (inState .setup).ctrl with setupHold := some 0 } }
    let bad := defaultSetupBlock.set 0x19 0x07#8
    let u := { s with ctrl := { s.ctrl with block := bad } }
    let v := { s with ctrl := { s.ctrl with setupHold := some 1 } }
    s.inReset = false ∧ s.ctrl.state = .setup ∧ s.ctrl.setupHold = some 0
      ∧ firstBadOffset s.ctrl.block = none ∧ u.ctrl.setupHold = some 0
      ∧ firstBadOffset u.ctrl.block = some 0x18
      ∧ v.ctrl.state = .setup ∧ v.ctrl.setupHold = some 1 ∧ 0 < 1 := by decide

theorem witness_ValidationFindsTheFirstBadSetting :
    firstBadOffset defaultSetupBlock = none
    ∧ firstBadOffset (defaultSetupBlock.set 0x3A 0x00#8) = some 0x3A
    ∧ firstBadOffset (defaultSetupBlock.set 0x00 0xFB#8) = some 0x00 := by decide

theorem witness_ListenAndMuteEnd :
    let s := entry 2 (.owned { station := 3, channel := 2 } 70 0#16)
      ((station 9 .listen).setChan 10 (record 2 .candidate 2000))
    let u := { s with ctrl := { s.ctrl with listenTimer := some 0 } }
    let m := { inState .muted with ctrl := { (inState .muted).ctrl with muteTimer := some 0 } }
    let v := { s with ctrl := { s.ctrl with listenTimer := some 1, muteTimer := some 1 } }
    u.inReset = false ∧ u.ctrl.state = .listen ∧ u.ctrl.listenTimer = some 0
      ∧ m.inReset = false ∧ m.ctrl.state = .muted ∧ m.ctrl.muteTimer = some 0
      ∧ v.inReset = false ∧ v.ctrl.listenTimer = some 1 ∧ v.ctrl.muteTimer = some 1 ∧ 0 < 1
      ∧ (after .listenTimerExpiry u).chans[10].state = .suppressed := by decide

theorem witness_JoinStartsOrIsRefused :
    let s := inState .setup
    let u := { s with ctrl := { s.ctrl with block := defaultSetupBlock.set 0x19 0x07#8 } }
    s.inReset = false ∧ s.ctrl.state = .setup ∧ firstBadOffset s.ctrl.block = none
      ∧ (inState .offline).ctrl.state = .offline
      ∧ u.ctrl.state = .setup ∧ firstBadOffset u.ctrl.block = some 0x18
      ∧ (inState .halted).ctrl.state ≠ .setup ∧ (inState .halted).ctrl.state ≠ .offline := by decide

theorem witness_RestartStartsWithCountersCleared :
    (inState .halted).inReset = false ∧ (inState .halted).ctrl.state ≠ .setup
    ∧ (inState .setup).ctrl.state = .setup := by decide

theorem witness_ReseedSeedsOneKeyChannel :
    let s := { (station 4 .online).setChan 9 (record 1 .pressed 1800) with
      host := { resetHost with argument := 9#8 } }
    let u := { (station 4 .online) with host := { resetHost with argument := 16#8 } }
    let v := { (station 4 .online) with host := { resetHost with argument := 15#8 } }
    s.inReset = false ∧ s.host.argument = BitVec.ofNat 8 (9 : Channel).val ∧ s.isKey 9 = true
      ∧ s.chans[9].state ≠ .off ∧ s.ctrl.state = .online ∧ LeavesByTable s 9
      ∧ LeavesByTable (queued 1 (.claim 9) (s.setChan 9 (record 1 .candidate 1800))) 9
      ∧ LeavesByTable (queued 1 (.confirm 9) (s.setChan 9 (record 1 .contending 1800))) 9
      ∧ 16 ≤ u.host.argument.toNat ∧ v.host.argument = BitVec.ofNat 8 (15 : Channel).val
      ∧ v.chans[15].state = .off := by decide

theorem witness_RecalClearAndUnknownCommands :
    (inState .online).inReset = false ∧ (0#8 : Byte) = 0#8 ∧ 7 ≤ (7#8 : Byte).toNat := by decide

theorem witness_LeaveGoesOfflineOrWaits :
    let s := inState .online
    let u := { s with ctrl := { s.ctrl with leavePending := true } }
    s.inReset = false ∧ s.ctrl.state = .online ∧ s.ctrl.leavePending = false
      ∧ u.ctrl.state = .online ∧ u.ctrl.leavePending = true
      ∧ (inState .muted).ctrl.state = .muted ∧ (inState .halted).ctrl.state = .halted := by decide

theorem witness_StartBeginsATransaction :
    let s := inState .setup
    s.inReset = false ∧ s.host.transaction = none
      ∧ (0x98#8 : Byte).toNat / 2 = 0x4C + s.ctrl.straps.address.val
      ∧ (0x9A#8 : Byte).toNat / 2 ≠ 0x4C + s.ctrl.straps.address.val
      ∧ (transaction .write true 0#7 s).host.transaction.isSome = true := by decide

/-- The transaction that `transaction` puts in progress. -/
def freshTransaction (d : Direction) (due : Bool) : Transaction :=
  { direction := d, indexDue := due, nacked := false, readLast := false }

theorem witness_TransactionEndTakesOrHandsOn :
    let read := { freshTransaction .read false with readLast := true }
    let r : Record := { number := 0#8, stamp := 0#16, event := .station 0 .online }
    let s := { inState .online with host := { resetHost with
      transaction := some read, eventSnapshot := some (.record r) } }
    let u := transaction .write false 2#7 (inState .online)
    let v := { u with host := { u.host with commandPending := some 0x06#8 } }
    s.inReset = false ∧ s.host.transaction = some read ∧ read.direction = .read ∧ read.readLast = true
      ∧ s.host.eventSnapshot = some (.record r) ∧ (freshTransaction .read false).readLast = false
      ∧ u.host.transaction = some (freshTransaction .write false) ∧ u.host.commandPending = none
      ∧ v.host.transaction = some (freshTransaction .write false)
      ∧ v.host.commandPending = some 0x06#8
      ∧ exec .clearCounters v = .next (after .clearCounters v)
      ∧ ((0x08#8 = 0x00#8 ∨ 7 ≤ (0x08#8 : Byte).toNat) ∧ Instr.unknownCommand 0x08#8 = .unknownCommand 0x08#8) :=
  ⟨by decide, by decide, by decide, by decide, by decide, by decide, by decide, by decide, by decide,
    by decide, rfl, by decide⟩

theorem witness_WrittenBytesActAtTheirIndex :
    let s := transaction .write true 0#7 (inState .setup)
    let at_ := fun i : BitVec 7 => transaction .write false i (inState .setup)
    s.inReset = false ∧ s.host.transaction = some (freshTransaction .write true)
      ∧ (at_ 0x40#7).host.transaction = some (freshTransaction .write false)
      ∧ 0x40 ≤ (at_ 0x40#7).host.index.toNat ∧ (at_ 0x40#7).ctrl.state = .setup
      ∧ (at_ 0x40#7).ctrl.lockOpen = true
      ∧ (transaction .write false 0x7F#7 (inState .seeding)).ctrl.state ≠ .setup
      ∧ (at_ 0x03#7).host.index = 0x03#7 ∧ (at_ 0x04#7).host.index = 0x04#7
      ∧ (at_ 0x01#7).host.index = 0x01#7 ∧ (at_ 0x02#7).host.index = 0x02#7
      ∧ 5 ≤ (at_ 0x05#7).host.index.toNat ∧ (at_ 0x3F#7).host.index.toNat < 0x40 := by decide

theorem witness_ReadBytesComeFromTheirCopies :
    let at_ := fun i : BitVec 7 => transaction .read false i (inState .online)
    (at_ 0x10#7).inReset = false ∧ (at_ 0x10#7).host.transaction = some (freshTransaction .read false)
      ∧ (freshTransaction .read false).nacked = false ∧ (at_ 0x10#7).host.recordSnapshot = none
      ∧ (at_ 0x1F#7).host.index.toNat ≤ 0x1F ∧ (at_ 0x20#7).host.eventSnapshot = none
      ∧ (at_ 0x20#7).log.records = [] ∧ (at_ 0x27#7).host.index.toNat ≤ 0x27
      ∧ (at_ 0x28#7).host.index.toNat = 0x28 ∧ (at_ 0x07#7).host.index.toNat = 0x07
      ∧ (at_ 0x08#7).host.index.toNat = 0x08 ∧ (at_ 0x0F#7).host.index.toNat = 0x0F
      ∧ (cursorWindow (at_ 0x10#7)).toList = (recordLayout (at_ 0x10#7)).map (BitVec.ofNat 8)
      ∧ { freshTransaction .read false with nacked := true }.nacked = true
      ∧ (at_ 0x2A#7).host.index.toNat = 0x2A ∧ (at_ 0x3F#7).host.index.toNat = 0x3F
      ∧ (at_ 0x7F#7).ctrl.block[0x7F - 0x40]? = some 0x00#8 := by decide

theorem witness_LogAdmitsOrCountsEachRecord :
    let r : Record := { number := 0#8, stamp := 0#16, event := .station 0 .online }
    (List.replicate 31 r).length < 32 ∧ 32 ≤ (List.replicate 32 r).length := by decide

/-! #### Invariants -/

theorem witness_reset_log : LogInv State.reset.log := by decide
theorem witness_reset_front : FrontInv State.reset := by decide
theorem witness_reset_station : StationInv State.reset := by decide
theorem witness_reset_channels : ChannelInv State.reset := by decide
theorem witness_reset_queue : QueueInv State.reset := by decide
theorem witness_reset_panel : PanelInv State.reset := by decide
theorem witness_reset_cadence : CadenceInv State.reset := by decide

/-- With every invariant at its reset state, a step that answers a next state. -/
theorem witness_EveryStepKeeps : step State.reset = .next (idle State.reset) := rfl

theorem witness_HaltedIsLeftOnlyByRestartOrReset :
    let s := inState .halted
    StationInv s ∧ FrontInv s ∧ s.ctrl.state = .halted
      ∧ (after .restart s).ctrl.state ≠ .halted := by decide

theorem witness_ClockStrapsSetupAndPendingAreKept :
    exec .join (inState .online) = .next (after .join (inState .online))
    ∧ (inState .online).ctrl.state ≠ .setup := ⟨rfl, by decide⟩

end Sys2Proof.Tests
end

section
/-! PROOF. A peer's PULSE repairs the claim table (03, R57 to R62). First the rules of the operations it is
made of, each an equation for the whole state: a frame delivered, an activity event, a withdrawal for a
whole group, and one group of a resync; then the resync as one equation, by induction on the groups dealt
with; then the statement. -/

namespace Sys2Proof.Machine

/-! ### Banks of records -/

section
variable {α β γ : Type} {n : Nat}

theorem each_congr {f f' : Fin n → α → β} {v : Vector α n} (h : ∀ i, f i v[i] = f' i v[i]) :
    each f v = each f' v := by
  simp only [each, h]

theorem each_each (f : Fin n → β → γ) (f' : Fin n → α → β) (v : Vector α n) :
    each f (each f' v) = each (fun i a => f i (f' i a)) v := by
  simp only [each, Fin.getElem_fin, Vector.getElem_ofFn]

/-- One more record of a bank written. -/
theorem set_each {f f' : Fin n → α → β} {v : Vector α n} {i : Fin n} {x : β} (hi : f' i v[i] = x)
    (hother : ∀ j, j ≠ i → f' j v[j] = f j v[j]) : (each f v).set i x = each f' v := by
  apply Vector.ext
  intro k hk
  show ((each f v).set i x)[(⟨k, hk⟩ : Fin n)] = (each f' v)[(⟨k, hk⟩ : Fin n)]
  rw [set_get, each_get, each_get]
  split
  next h => rw [← h, hi]
  next h => exact (hother _ (Ne.symm h)).symm

end

/-! ### A peer's frame, and cadence control (05, 07) -/

/-- An intact frame of another station is delivered, with no attempt that it could end (05, R91). -/
theorem exec_frameHeard_peer {f : Frame} {s : State} (h : Receives f s) (hp : senderOf f ≠ s.number) :
    exec (.frameHeard f) s = .next (deliver f none s) := by
  obtain ⟨hreset, hrecv, hatt, hwf, bits, hline, hpre⟩ := h
  simp [exec, execFrameHeard, outOfReset, hear, hreset, hrecv, hatt, hwf, hline, hpre, hp]

theorem quietAfresh_eq (s : State) : quietAfresh s = quietWith s s.table.entries := rfl

/-- A PULSE request for other than the interval timer, as the queue's one equation (06, R113). -/
theorem pulseRequest_false (q : TxQueue) :
    pulseRequest false q =
      { q with pulse := true, renewal := q.renewal || (q.pulse && decide (q.inFlight = some .pulse)) } := by
  obtain ⟨recal, pulse, renewal, groups, inFlight, withdrawn, timer⟩ := q
  cases pulse with
  | false => simp [pulseRequest]
  | true => by_cases h : inFlight = some .pulse <;> simp [pulseRequest, h]

/-- An activity event of another station as an equation for the whole state (07, R128, R129). -/
theorem activity_false_eq (s : State) :
    activity false s = { s with
      cad := { s.cad with cadence := .brisk, quiet := quietWith s s.table.entries }
      queue := queueAtWake s s.queue
      log := (wakeEvents s).foldl logPut s.log } := by
  cases hc : s.cad.cadence with
  | brisk => simp [activity, stir, quietAfresh_eq, queueAtWake, wakeEvents, hc]
  | slack =>
    by_cases ho : s.ctrl.state = .online <;>
      simp [activity, stir, changeCadence, State.requestPulse, State.online, State.put, pulseRequest_false,
        quietAfresh, quietWith, queueAtWake, wakeEvents, hc, ho]

/-- The claim table's report as an equation for the whole state (07, R130). -/
theorem reportTable_eq (s : State) :
    reportTable s = { s with cad := if s.cad.cadence = .brisk then
      { s.cad with quiet := quietWith s s.table.entries } else s.cad } := by
  unfold reportTable
  split <;> rfl

/-- An activity event starts the quiet timer afresh, so a report of the table just before it leaves no
trace. -/
theorem activity_false_reportTable (s : State) : activity false (reportTable s) = activity false s := by
  rw [activity_false_eq, activity_false_eq, reportTable_eq]
  by_cases h : s.cad.cadence = .brisk <;> simp [queueAtWake, wakeEvents, quietWith, State.number, h]

theorem anyChanged_iff (old new : Vector Entry 8) : anyChanged old new = true ↔ TableDiffers old new := by
  simp [anyChanged, entryChanged, TableDiffers, ne_comm]

/-- Cadence control at a peer's PULSE that left the claim table of `s` as `u` has it (07, R128 to R130). -/
theorem cadenceHears_peer_pulse {p : Station} (fields : PulseFields) {s u : State} (hp : p ≠ s.number)
    (hcad : u.cad = s.cad) (hctrl : u.ctrl = s.ctrl) (htracker : u.tracker = s.tracker) :
    cadenceHears (.pulse p fields) s.table.entries u = { u with
      cad := cadenceAfter fields.stirred s u.table.entries
      queue := if fields.stirred then queueAtWake s u.queue else u.queue
      log := (if fields.stirred then wakeEvents s else []).foldl logPut u.log } := by
  have hquiet : quietWith u u.table.entries = quietWith s u.table.entries := by simp [quietWith, htracker]
  have hwake (q : TxQueue) : queueAtWake u q = queueAtWake s q := by simp [queueAtWake, hcad, hctrl]
  have hevents : wakeEvents u = wakeEvents s := by simp [wakeEvents, State.number, hcad, hctrl]
  have hnumber : u.number = s.number := by simp [State.number, hctrl]
  cases hs : fields.stirred with
  | false =>
    by_cases hd : TableDiffers s.table.entries u.table.entries
    · simp [cadenceHears, isRecal, isActivity, hs, anyChanged_iff, hd, reportTable_eq, cadenceAfter, hcad,
        hquiet]
    · simp [cadenceHears, isRecal, isActivity, hs, anyChanged_iff, hd, cadenceAfter, ← hcad]
  | true =>
    have hactive : cadenceHears (.pulse p fields) s.table.entries u = activity false u := by
      by_cases hd : anyChanged s.table.entries u.table.entries = true <;>
        simp [cadenceHears, isRecal, isActivity, hs, hd, hnumber, hp, activity_false_reportTable]
    rw [hactive, activity_false_eq, hwake, hevents, hquiet]
    simp [cadenceAfter, hcad]

/-! ### A withdrawal for a whole group (06) -/

/-- A withdrawal that reaches every channel leaves of a slot only a frame in flight (06, R111). -/
theorem slotAfterWithdrawal_all (flying : Bool) (sl : GroupSlot) :
    slotAfterWithdrawal flying (fun _ => true) sl =
      { frame := if flying then sl.frame else none, followUp := none } := by
  obtain ⟨frame, followUp⟩ := sl
  cases flying <;> cases frame <;> cases followUp <;> simp [slotAfterWithdrawal]

/-- A withdrawal for a whole group as an equation for the whole queue (06, R111). -/
theorem withdrawGroup_eq (g : Group) (q : TxQueue) :
    withdrawGroup g q = {
      setSlot q g (slotAfterWithdrawal (decide (q.inFlight = some (.group g))) (fun _ => true) q.groups[g])
        with withdrawnInFlight := q.withdrawnInFlight || markedWithdrawn q g fun _ => true } := by
  rw [slotAfterWithdrawal_all]
  cases hframe : q.groups[g.val].frame with
  | none => simp [withdrawGroup, markedWithdrawn, setSlot, hframe]
  | some f =>
    by_cases hfly : q.inFlight = some (.group g) <;>
      simp [withdrawGroup, withdrawFrame, groupInFlight, markedWithdrawn, setSlot, hframe, hfly]

/-! ### One group of a resync (03) -/

/-- A record whose group is lost to a peer's listing: from CONTENDING or PRESSED it passes to SUPPRESSED (03,
R62). -/
def giveUp (r : Chan) : Chan :=
  if r.state = .contending ∨ r.state = .pressed then { r with state := .suppressed, holdTimer := none }
  else r

theorem giveUp_giveUp (r : Chan) : giveUp (giveUp r) = giveUp r := by
  by_cases h : r.state = .contending ∨ r.state = .pressed <;> simp [giveUp, h]

/-- What resyncGroup writes for the channel that loses its group. -/
theorem ite_setChan_toSuppressed (s : State) (c : Channel) :
    (if s.chans[c].state = .contending ∨ s.chans[c].state = .pressed then
        s.setChan c (toSuppressed s.chans[c])
      else s) = s.setChan c (giveUp s.chans[c]) := by
  unfold giveUp
  split
  · rfl
  · simp [State.setChan]

/-- The records once the channel that loses a group, if there is one, has given it up. -/
def chansGivenUp : Option Channel → Vector Chan 16 → Vector Chan 16
  | none, v => v
  | some c, v => v.set c (giveUp v[c])

theorem chansGivenUp_eq_each (loser : Option Channel) (v : Vector Chan 16) :
    chansGivenUp loser v = each (fun c r => if loser = some c then giveUp r else r) v := by
  cases loser with
  | none => simp [chansGivenUp, each]
  | some d =>
    have hv : each (fun _ r => r) v = v := by simp [each]
    conv_lhs => rw [chansGivenUp, ← hv]
    exact set_each (by simp) fun c hc => by simp [Ne.symm hc]

/-- The comparison of R61 asks for a lower station than the holder's, or the holder's own; a holder of this
station is none of the sender's. -/
theorem resyncLoser_eq_listedLoser {s : State} {p : Station} (hp : p ≠ s.number)
    (holdings : List (Group × Channel)) (g : Group) :
    resyncLoser s p (listed holdings g) g = listedLoser s p holdings g := by
  have hother (h : Holder) (c : Channel) :
      (h ≠ { station := p, channel := c } ∧ prevails p h = true ∧ s.isLocal h = true)
        ↔ h.station = s.number ∧ p < s.number := by
    by_cases hl : h.station = s.number
    · have hne : h ≠ { station := p, channel := c } := fun e => hp (by rw [← hl, e])
      simp [hne, prevails, State.isLocal, hl, hp]
    · simp [State.isLocal, hl]
  cases hpair : holdings.find? (fun pair => decide (pair.1 = g)) with
  | none => simp [resyncLoser, listedLoser, listed, hpair]
  | some pair =>
    cases he : s.table.entries[g] <;>
      simp only [resyncLoser, listedLoser, listed, hpair, he, entryHolder, Option.map_some, hother]

/-- One group of a resync as an equation for the whole state (03, R57 to R62). -/
theorem resyncGroup_eq {s : State} {p : Station} (hp : p ≠ s.number) (holdings : List (Group × Channel))
    (g : Group) :
    resyncGroup p holdings s g = { s with
      chans := chansGivenUp (listedLoser s p holdings g) s.chans
      queue := if (listedLoser s p holdings g).isSome then withdrawGroup g s.queue else s.queue
      table := { s.table with
        entries := s.table.entries.set g
          (resyncEntry p (listed holdings g) s.log.clock s.table.entries[g]) }
      log := (resyncEvents p (listed holdings g) g s.table.entries[g]).foldl logPut s.log } := by
  unfold resyncGroup
  dsimp only
  rw [resyncLoser_eq_listedLoser hp]
  cases listedLoser s p holdings g with
  | none => rfl
  | some c =>
    dsimp only
    rw [ite_setChan_toSuppressed]
    rfl

/-! ### The groups of a resync, one after another (03) -/

section
variable (p : Station) (holdings : List (Group × Channel))

/-- The station once the groups `gs` have been compared with the sender's pairs: `afterListing` for those
groups, with their entries and records. -/
def repairedOver (gs : List Group) (s : State) : State :=
  let loser := listedLoser s p holdings
  { s with
    chans := each (fun c r => if ∃ g ∈ gs, loser g = some c then giveUp r else r) s.chans
    queue := { s.queue with
      groups := each (fun g sl => if g ∈ gs ∧ (loser g).isSome then
          slotAfterWithdrawal (decide (s.queue.inFlight = some (.group g))) (fun _ => true) sl
        else sl) s.queue.groups
      withdrawnInFlight := s.queue.withdrawnInFlight
        || gs.any fun g => (loser g).isSome && markedWithdrawn s.queue g fun _ => true }
    table := { s.table with
      entries := each (fun g e =>
        if g ∈ gs then resyncEntry p (listed holdings g) s.log.clock e else e) s.table.entries }
    log := (gs.flatMap fun g => resyncEvents p (listed holdings g) g s.table.entries[g]).foldl logPut s.log }

@[simp] theorem repairedOver_keeps (gs : List Group) (s : State) :
    (repairedOver p holdings gs s).number = s.number
      ∧ (repairedOver p holdings gs s).queue.inFlight = s.queue.inFlight
      ∧ (repairedOver p holdings gs s).log.clock = s.log.clock := by
  simp [repairedOver, State.number]

theorem repairedOver_nil (s : State) : repairedOver p holdings [] s = s := by
  simp [repairedOver, each]

section
variable {p holdings} {gs : List Group} {g : Group}

/-- A group not yet dealt with has its entry and its slot as they were, and so its loser. -/
theorem repairedOver_other (s : State) (hg : g ∉ gs) :
    (repairedOver p holdings gs s).table.entries[g] = s.table.entries[g]
      ∧ (repairedOver p holdings gs s).queue.groups[g] = s.queue.groups[g]
      ∧ listedLoser (repairedOver p holdings gs s) p holdings g = listedLoser s p holdings g := by
  have hentry : (repairedOver p holdings gs s).table.entries[g] = s.table.entries[g] := by
    simp [repairedOver, hg]
  exact ⟨hentry, by simp [repairedOver, hg], by simp only [listedLoser, hentry, repairedOver_keeps]⟩

theorem repairedOver_append_chans (s : State) :
    chansGivenUp (listedLoser s p holdings g) (repairedOver p holdings gs s).chans
      = (repairedOver p holdings (gs ++ [g]) s).chans := by
  simp only [chansGivenUp_eq_each, repairedOver, each_each]
  refine each_congr fun c => ?_
  by_cases hnow : listedLoser s p holdings g = some c
  · by_cases hbefore : ∃ d ∈ gs, listedLoser s p holdings d = some c <;>
      simp [hnow, hbefore, giveUp_giveUp, or_and_right, exists_or]
  · simp [hnow, or_and_right, exists_or]

theorem repairedOver_append_groups (s : State)
    (hl : (listedLoser s p holdings g).isSome = true) :
    (repairedOver p holdings gs s).queue.groups.set g
        (slotAfterWithdrawal (decide (s.queue.inFlight = some (.group g))) (fun _ => true) s.queue.groups[g])
      = (repairedOver p holdings (gs ++ [g]) s).queue.groups := by
  exact set_each (by simp [hl]) fun d hd => by simp [hd]

theorem repairedOver_append_queue (s : State) (hg : g ∉ gs) :
    (if (listedLoser s p holdings g).isSome then withdrawGroup g (repairedOver p holdings gs s).queue
      else (repairedOver p holdings gs s).queue) = (repairedOver p holdings (gs ++ [g]) s).queue := by
  obtain ⟨-, hslot, -⟩ := repairedOver_other (p := p) (holdings := holdings) s hg
  obtain ⟨-, hflying, -⟩ := repairedOver_keeps p holdings gs s
  by_cases hl : (listedLoser s p holdings g).isSome = true
  · have hmarked : ((repairedOver p holdings gs s).queue.withdrawnInFlight
          || markedWithdrawn (repairedOver p holdings gs s).queue g fun _ => true)
        = (repairedOver p holdings (gs ++ [g]) s).queue.withdrawnInFlight := by
      rw [markedWithdrawn, hslot]
      simp [repairedOver, markedWithdrawn, hl, Bool.or_assoc]
    rw [if_pos hl, withdrawGroup_eq, hslot, hmarked, setSlot, hflying, repairedOver_append_groups s hl]
    rfl
  · have hin (d : Group) : (d ∈ gs ∨ d = g) ∧ (listedLoser s p holdings d).isSome = true
        ↔ d ∈ gs ∧ (listedLoser s p holdings d).isSome = true := by
      exact ⟨fun ⟨h, hd⟩ => ⟨h.resolve_right fun e => hl (e ▸ hd), hd⟩, fun ⟨h, hd⟩ => ⟨.inl h, hd⟩⟩
    simp [repairedOver, hl, hin]

theorem repairedOver_append_entries (s : State) :
    (repairedOver p holdings gs s).table.entries.set g
        (resyncEntry p (listed holdings g) s.log.clock s.table.entries[g])
      = (repairedOver p holdings (gs ++ [g]) s).table.entries := by
  exact set_each (by simp) fun d hd => by simp [hd]

/-- One more group of the resync. -/
theorem resyncGroup_repairedOver {s : State} (hp : p ≠ s.number) (hg : g ∉ gs) :
    resyncGroup p holdings (repairedOver p holdings gs s) g = repairedOver p holdings (gs ++ [g]) s := by
  obtain ⟨hentry, -, hloser⟩ := repairedOver_other (p := p) (holdings := holdings) s hg
  obtain ⟨hnumber, -, hclock⟩ := repairedOver_keeps p holdings gs s
  have hlog : (resyncEvents p (listed holdings g) g s.table.entries[g]).foldl logPut
      (repairedOver p holdings gs s).log = (repairedOver p holdings (gs ++ [g]) s).log := by
    simp [repairedOver]
  have hp' : p ≠ (repairedOver p holdings gs s).number := by rwa [hnumber]
  rw [resyncGroup_eq hp', hentry, hloser, hclock,
    repairedOver_append_chans, repairedOver_append_queue s hg, repairedOver_append_entries s, hlog]
  simp only [repairedOver]

end

theorem foldl_resyncGroup {s : State} (hp : p ≠ s.number) (gs : List Group) (hgs : gs.Nodup) :
    gs.foldl (resyncGroup p holdings) s = repairedOver p holdings gs s := by
  induction gs using List.reverseRecOn with
  | nil => exact (repairedOver_nil p holdings s).symm
  | append_singleton gs g ih =>
    obtain ⟨hinit, -, hdisjoint⟩ := List.nodup_append.mp hgs
    have hg : g ∉ gs := fun h => hdisjoint g h g (List.mem_singleton_self g) rfl
    rw [List.foldl_append, ih hinit, List.foldl_cons, List.foldl_nil, resyncGroup_repairedOver hp hg]

/-- A resync as an equation for the whole state (03, R57 to R62). -/
theorem resync_eq {s : State} (hp : p ≠ s.number) :
    resync p holdings s = repairedOver p holdings (List.finRange 8) s :=
  foldl_resyncGroup p holdings hp _ (List.nodup_finRange 8)

/-- With every group dealt with, what this station's channels give up is as the statements say it. -/
theorem repairedOver_finRange (s : State) :
    repairedOver p holdings (List.finRange 8) s = { s with
      chans := (afterListing p holdings s).chans
      queue := (afterListing p holdings s).queue
      table := { s.table with
        entries := each (fun g e => resyncEntry p (listed holdings g) s.log.clock e) s.table.entries }
      log := ((List.finRange 8).flatMap fun g =>
        resyncEvents p (listed holdings g) g s.table.entries[g]).foldl logPut s.log } := by
  have hgive (r : Chan) (lost : Prop) [Decidable lost] :
      (if lost then giveUp r else r) = if lost ∧ (r.state = .contending ∨ r.state = .pressed) then
        { r with state := .suppressed, holdTimer := none } else r := by
    by_cases lost <;> simp [giveUp, *]
  simp [repairedOver, afterListing, hgive]

end

/-! ### What an evaluation leaves of a group lost (04) -/

theorem evaluate_sameOutsidePanel {s u : State} (which : Group → Bool) (h : SameOutsidePanel s u) :
    SameOutsidePanel s (evaluate which u) := by
  simpa [SameOutsidePanel] using h

/-- An evaluation changes the records of candidates alone (04, R72). -/
theorem evaluate_chan_of_ne_candidate (which : Group → Bool) (s : State) (c : Channel)
    (h : s.chans[c].state ≠ .candidate) : (evaluate which s).chans[c] = s.chans[c] := by
  have hout (g : Group) : evaluated s g c = false := by simp only [evaluated, h, decide_false, Bool.false_and]
  have hkept : evaluatedChan s c s.chans[c] = s.chans[c] := by
    simp only [evaluatedChan, hout, Bool.false_and, Bool.false_eq_true, if_false]
  unfold evaluate
  split
  · rw [each_get, hkept, ite_self]
  · rfl

/-- An OWNED group has no candidate to choose, so its empty slot stays empty through an evaluation (04, R72,
R73). -/
theorem evaluate_slot_of_owned (which : Group → Bool) (s : State) (g : Group) {h : Holder} {st : Nat}
    {since : Word} (howned : s.table.entries[g] = .owned h st since)
    (hempty : s.queue.groups[g].frame = none) :
    (evaluate which s).queue.groups[g] = s.queue.groups[g] := by
  have hchoice : choice s g = none := by simp [choice, eligible, howned, admitsClaim]
  have hkept : evaluatedSlot s g = s.queue.groups[g] := by
    simp only [evaluatedSlot, hchoice, claimWithdrawn, hempty, Bool.false_eq_true, if_false]
  unfold evaluate
  split
  · dsimp only
    rw [each_get, hkept, ite_self]
  · rfl

/-! ### The PULSE as a whole (03, 05, 07) -/

/-- A peer heard as an equation for the whole state (07, R120). -/
theorem peerHeard_eq (p : Station) (announced : Option Announced) (s : State) :
    peerHeard p announced s = { s with
      roster := s.roster.set p (heardEntry announced)
      log := (joinedEvents s p).foldl logPut s.log } := by
  cases h : s.roster[p.val].present <;> simp [peerHeard, joinedEvents, State.setRoster, State.put, h]

/-- The station once the roster and the claim table have taken a peer's PULSE that is not leaving. -/
def afterResync (p : Station) (fields : PulseFields) (s : State) : State :=
  { s with
    chans := (afterListing p fields.holdings s).chans
    queue := (afterListing p fields.holdings s).queue
    table := { s.table with
      entries := each (fun g e => resyncEntry p (listed fields.holdings g) s.log.clock e) s.table.entries }
    roster := s.roster.set p (heardEntry (some (announcedOf fields)))
    log := (joinedEvents s p ++ (List.finRange 8).flatMap fun g =>
      resyncEvents p (listed fields.holdings g) g s.table.entries[g]).foldl logPut s.log
    link := { s.link with line := .seeking 7 } }

theorem afterResync_keeps (p : Station) (fields : PulseFields) (s : State) :
    (afterResync p fields s).cad = s.cad ∧ (afterResync p fields s).ctrl = s.ctrl
      ∧ (afterResync p fields s).tracker = s.tracker := by
  simp [afterResync]

/-- The station once cadence control has taken it too, before the changed groups are evaluated. -/
def afterRepair (p : Station) (fields : PulseFields) (s : State) : State :=
  let u := afterResync p fields s
  { u with
    cad := cadenceAfter fields.stirred s u.table.entries
    queue := if fields.stirred then queueAtWake s u.queue else u.queue
    log := (if fields.stirred then wakeEvents s else []).foldl logPut u.log }

/-- The groups whose entries a PULSE changed in state, holder or strength (03, R45; 04, R71). -/
def repairChanges (p : Station) (fields : PulseFields) (s : State) (g : Group) : Bool :=
  decide (standing (afterRepair p fields s).table.entries[g] ≠ standing s.table.entries[g])

section
variable {s : State} {p : Station} {fields : PulseFields}

/-- The roster and the claim table at a peer's PULSE that is not leaving (07, R120; 03, R57). -/
theorem tableHears_rosterHears_pulse (hp : p ≠ s.number) (hleaving : fields.leaving = false) :
    tableHears (.pulse p fields) (rosterHears (.pulse p fields) (afterFrame s))
      = afterResync p fields s := by
  have hroster : rosterHears (.pulse p fields) (afterFrame s)
      = peerHeard p (some (announcedOf fields)) (afterFrame s) := by
    have hsender : senderOf (.pulse p fields) ≠ (afterFrame s).number := hp
    simp [rosterHears, hsender, hleaving]
  have hnumber : p ≠ (peerHeard p (some (announcedOf fields)) (afterFrame s)).number := by
    rw [peerHeard_eq]
    exact hp
  rw [hroster]
  simp only [tableHears, hnumber, hleaving, or_self, if_false, Bool.false_eq_true]
  rw [resync_eq _ _ hnumber, repairedOver_finRange, peerHeard_eq, afterResync, List.foldl_append]
  simp only [foldl_logPut_clock]
  rfl

/-- A peer's PULSE that is not leaving as an equation for the whole state. -/
theorem deliver_peer_pulse (hp : p ≠ s.number) (hleaving : fields.leaving = false) :
    deliver (.pulse p fields) none s = evaluate (repairChanges p fields s) (afterRepair p fields s) := by
  have hheard : cadenceHears (.pulse p fields) s.table.entries
      (tableHears (.pulse p fields) (rosterHears (.pulse p fields) (afterFrame s)))
        = afterRepair p fields s := by
    obtain ⟨hcad, hctrl, htracker⟩ := afterResync_keeps p fields s
    rw [tableHears_rosterHears_pulse hp hleaving, cadenceHears_peer_pulse fields hp hcad hctrl htracker]
    rfl
  have hchanged : entryChanged s.table.entries (afterRepair p fields s).table.entries
      = repairChanges p fields s := by
    funext g
    simp [entryChanged, repairChanges, ne_comm]
  simp only [deliver, hheard, hchanged]

/-- What no PULSE reaches (03, 07). -/
theorem afterRepair_keeps :
    SameOutsidePanel s (afterRepair p fields s) ∧ (afterRepair p fields s).tracker = s.tracker
      ∧ (afterRepair p fields s).table.stray = s.table.stray
      ∧ (afterRepair p fields s).table.abandoned = s.table.abandoned := by
  simp [SameOutsidePanel, afterRepair, afterResync]

/-- The entry of a group that the PULSE does not name (03, R58). -/
theorem afterRepair_entry_unlisted {g : Group}
    (h : fields.holdings.find? (fun pair => decide (pair.1 = g)) = none) :
    (afterRepair p fields s).table.entries[g] = resyncEntry p none s.log.clock s.table.entries[g] := by
  simp [afterRepair, afterResync, listed, h]

/-- The entry of a group that the PULSE names (03, R59 to R61). -/
theorem afterRepair_entry_listed {g : Group} {c : Channel}
    (h : fields.holdings.find? (fun pair => decide (pair.1 = g)) = some (g, c)) :
    (afterRepair p fields s).table.entries[g] = resyncEntry p (some c) s.log.clock s.table.entries[g] := by
  simp [afterRepair, afterResync, listed, h]

theorem prevails_iff (sender : Station) (old : Holder) :
    prevails sender old = true ↔ sender ≤ old.station := by
  simp [prevails, le_iff_lt_or_eq]

/-- A listing that prevails over the entry's holder replaces the entry (03, R61). -/
theorem resyncEntry_of_prevails {e : Entry} {h : Holder} {c : Channel} (clock : Word)
    (hholder : entryHolder e = some h) (hne : h ≠ { station := p, channel := c })
    (hprevails : prevails p h = true) :
    resyncEntry p (some c) clock e = .owned { station := p, channel := c } 0 clock := by
  cases e with
  | free => cases hholder
  | guarded => cases hholder
  | contested old _ _ _ =>
    obtain rfl : old = h := Option.some.inj hholder
    simp [resyncEntry, hne, hprevails]
  | owned old _ _ =>
    obtain rfl : old = h := Option.some.inj hholder
    simp [resyncEntry, hne, hprevails]

section
variable {g : Group} {c own : Channel}
  (hlisted : fields.holdings.find? (fun pair => decide (pair.1 = g)) = some (g, c)) (hlower : p < s.number)
  (hholder : entryHolder s.table.entries[g] = some { station := s.number, channel := own })
include hlisted hlower hholder

theorem listedLoser_eq_own : listedLoser s p fields.holdings g = some own := by
  rw [listedLoser, hlisted, hholder]
  simp [hlower]

/-- A lower station's listing takes the group from this station (03, R61). -/
theorem afterRepair_entry_lost :
    (afterRepair p fields s).table.entries[g]
      = .owned { station := p, channel := c } 0 s.log.clock := by
  have hne : ({ station := s.number, channel := own } : Holder) ≠ { station := p, channel := c } :=
    fun e => hlower.ne' (congrArg Holder.station e)
  rw [afterRepair_entry_listed hlisted]
  exact resyncEntry_of_prevails _ hholder hne ((prevails_iff _ _).mpr hlower.le)

/-- The channel that held the group has given it up (03, R62). -/
theorem afterRepair_chan_lost
    (hstate : s.chans[own].state = .contending ∨ s.chans[own].state = .pressed) :
    (afterRepair p fields s).chans[own] = { s.chans[own] with state := .suppressed, holdTimer := none } := by
  have hloses : ∃ d, listedLoser s p fields.holdings d = some own :=
    ⟨g, listedLoser_eq_own hlisted hlower hholder⟩
  show (afterListing p fields.holdings s).chans[own] = _
  rw [afterListing, each_get, if_pos ⟨hloses, hstate⟩]

/-- The slot of the group, where it is not in flight, is empty (06, R111). -/
theorem afterRepair_slot_lost (hfly : s.queue.inFlight ≠ some (.group g)) :
    (afterRepair p fields s).queue.groups[g] = emptySlot := by
  have hgroups : (afterRepair p fields s).queue.groups = (afterListing p fields.holdings s).queue.groups := by
    simp only [afterRepair, queueAtWake]
    split
    · split <;> rfl
    · rfl
  rw [hgroups, afterListing, each_get, listedLoser_eq_own hlisted hlower hholder]
  simp [slotAfterWithdrawal_all, hfly, emptySlot]

end

end

/-- Settles O18: the PULSE delivered is `afterRepair` with the changed groups evaluated; the entries are
those of `resyncEntry`, and an evaluation reaches neither a SUPPRESSED channel nor the empty slot of an OWNED
group. -/
theorem pulseRepairsTheClaimTable : Obligations.PulseRepairsTheClaimTable := by
  intro s p fields hreceives hp hleaving
  obtain ⟨-, -, -, -, -, htracker, htable, hlink, hroster, hcad, -, hlog, -⟩ :=
    evaluate_keeps (afterRepair p fields s) (repairChanges p fields s)
  obtain ⟨houtside, hsettings, hstray, habandoned⟩ := afterRepair_keeps (s := s) (p := p) (fields := fields)
  have hentries := congrArg ClaimTable.entries htable
  refine ⟨evaluate (repairChanges p fields s) (afterRepair p fields s), ?delivered, ?unlisted, ?listed, ?lost,
    ?records, by rw [htable, hstray], by rw [htable, habandoned], hlink, htracker.trans hsettings,
    evaluate_sameOutsidePanel _ houtside, by rw [hentries]; exact hcad, ?evaluated⟩
  case delivered => rw [exec_frameHeard_peer hreceives hp, deliver_peer_pulse hp hleaving]
  case unlisted =>
    intro g hunlisted
    rw [hentries, afterRepair_entry_unlisted hunlisted]
    cases s.table.entries[g] <;> rfl
  case listed =>
    intro g c hlisted
    rw [hentries, afterRepair_entry_listed hlisted]
    cases s.table.entries[g] <;> simp only [resyncEntry, prevails_iff]
  case lost =>
    intro g c own hlisted hlower hholder hstate
    have hchan := afterRepair_chan_lost hlisted hlower hholder hstate
    refine ⟨?_, fun hfly => ?_⟩
    · rw [evaluate_chan_of_ne_candidate _ _ _ (by rw [hchan]; simp), hchan]
    · have hentry := afterRepair_entry_lost hlisted hlower hholder
      have hslot := afterRepair_slot_lost hlisted hlower hholder hfly
      rw [evaluate_slot_of_owned _ _ g hentry (by rw [hslot]; rfl), hslot]
      exact ⟨rfl, rfl⟩
  case records =>
    rw [hlog, List.foldl_append]
    rfl
  case evaluated =>
    simp only [htable, hroster, hlog, hcad, hlink]
    refine congrArg₂ evaluate rfl ?_
    simp only [afterRepair, afterResync]

end Sys2Proof.Machine
end

section
/-! PROOF. An attempt starts on the slot first in order (06, R106, R107). First the first group of a kind,
then the place of a held slot by the kind of its frame, then the slot chosen, the content taken and the
statement. -/

namespace Sys2Proof.Machine

/-! ### The first group of a kind (06, R106) -/

/-- The slot of group `g` holds a frame of the kind tested. -/
def holdsKind (q : TxQueue) (kind : GroupFrame → Bool) (g : Group) : Bool := q.groups[g].frame.any kind

theorem firstGroup_eq_find (q : TxQueue) (kind : GroupFrame → Bool) :
    firstGroup q kind = (List.finRange 8).find? (holdsKind q kind) := by
  refine congrArg (List.find? · _) (funext fun g => ?_)
  rw [holdsKind]
  cases q.groups[g].frame <;> rfl

section
variable {q : TxQueue} {kind : GroupFrame → Bool} {g d : Group}

theorem holdsKind_iff : holdsKind q kind g = true ↔ ∃ f, q.groups[g].frame = some f ∧ kind f = true := by
  simp [holdsKind, Option.any_eq_true]

theorem firstGroup_holdsKind (h : firstGroup q kind = some g) : holdsKind q kind g = true := by
  rw [firstGroup_eq_find] at h
  exact List.find?_some h

/-- No group below the first one holds the kind. -/
theorem firstGroup_le (h : firstGroup q kind = some g) (hd : holdsKind q kind d = true) : g ≤ d := by
  rw [firstGroup_eq_find, List.find?_eq_some_iff_getElem] at h
  obtain ⟨-, i, hi, rfl, hbefore⟩ := h
  by_contra hlt
  have hdi : d.val < i := by simpa [Fin.lt_def] using hlt
  simpa [hd] using hbefore d.val hdi

theorem not_holdsKind_of_firstGroup_none (h : firstGroup q kind = none) : ¬ holdsKind q kind d = true := by
  rw [firstGroup_eq_find, List.find?_eq_none] at h
  exact h d (List.mem_finRange d)

end

/-! ### The place of a held slot (06, R106) -/

/-- The held slots with their places in the attempt order, by the kind of frame held. -/
inductive Ranked (q : TxQueue) : TxSlot → Nat → Prop
  | recal (h : q.recal = true) : Ranked q .recal 0
  | release (g : Group) (h : holdsKind q isRelease g = true) : Ranked q (.group g) (1 + g.val)
  | confirm (g : Group) (h : holdsKind q isConfirm g = true) : Ranked q (.group g) (9 + g.val)
  | claim (g : Group) (h : holdsKind q isClaim g = true) : Ranked q (.group g) (17 + g.val)
  | pulse (h : q.pulse = true) : Ranked q .pulse 25

section
variable {q : TxQueue} {slot other : TxSlot} {n m : Nat}

theorem ranked_attemptRank (h : slotHeld q slot = true) : Ranked q slot (attemptRank q slot) := by
  cases slot with
  | recal => exact .recal h
  | pulse => exact .pulse h
  | group g =>
    obtain ⟨f, hf⟩ := Option.isSome_iff_exists.mp h
    simp only [attemptRank, hf]
    cases f with
    | release => exact .release g (holdsKind_iff.mpr ⟨_, hf, rfl⟩)
    | confirm => exact .confirm g (holdsKind_iff.mpr ⟨_, hf, rfl⟩)
    | claim => exact .claim g (holdsKind_iff.mpr ⟨_, hf, rfl⟩)

theorem Ranked.slotHeld (h : Ranked q slot n) : slotHeld q slot = true := by
  cases h with
  | recal h => exact h
  | pulse h => exact h
  | release g h | confirm g h | claim g h =>
    obtain ⟨f, hf, -⟩ := holdsKind_iff.mp h
    exact Option.isSome_iff_exists.mpr ⟨f, hf⟩

theorem Ranked.attemptRank_eq (h : Ranked q slot n) : attemptRank q slot = n := by
  cases h with
  | recal => rfl
  | pulse => rfl
  | release g h | confirm g h | claim g h =>
    obtain ⟨f, hf, hkind⟩ := holdsKind_iff.mp h
    cases f <;> cases hkind
    simp only [attemptRank, hf]

/-! ### The slot chosen (06, R106) -/

/-- Where a slot is held, one is chosen, and no held slot stands before it. -/
theorem chooseSlot_first (hheld : Ranked q other m) :
    ∃ slot n, chooseSlot q = some slot ∧ Ranked q slot n ∧ ∀ other m, Ranked q other m → n ≤ m := by
  by_cases hrecal : q.recal = true
  · exact ⟨.recal, 0, by simp [chooseSlot, hrecal], .recal hrecal, fun _ _ _ => Nat.zero_le _⟩
  cases hrel : firstGroup q isRelease with
  | some g =>
    refine ⟨.group g, _, by simp [chooseSlot, hrecal, hrel], .release g (firstGroup_holdsKind hrel), ?_⟩
    rintro _ _ (h | ⟨d, hd⟩ | d | d | -)
    · exact absurd h hrecal
    · exact Nat.add_le_add_left (firstGroup_le hrel hd) 1
    all_goals omega
  | none =>
  cases hcon : firstGroup q isConfirm with
  | some g =>
    refine ⟨.group g, _, by simp [chooseSlot, hrecal, hrel, hcon],
      .confirm g (firstGroup_holdsKind hcon), ?_⟩
    rintro _ _ (h | ⟨d, hd⟩ | ⟨d, hd⟩ | d | -)
    · exact absurd h hrecal
    · exact absurd hd (not_holdsKind_of_firstGroup_none hrel)
    · exact Nat.add_le_add_left (firstGroup_le hcon hd) 9
    all_goals omega
  | none =>
  cases hcla : firstGroup q isClaim with
  | some g =>
    refine ⟨.group g, _, by simp [chooseSlot, hrecal, hrel, hcon, hcla],
      .claim g (firstGroup_holdsKind hcla), ?_⟩
    rintro _ _ (h | ⟨d, hd⟩ | ⟨d, hd⟩ | ⟨d, hd⟩ | -)
    · exact absurd h hrecal
    · exact absurd hd (not_holdsKind_of_firstGroup_none hrel)
    · exact absurd hd (not_holdsKind_of_firstGroup_none hcon)
    · exact Nat.add_le_add_left (firstGroup_le hcla hd) 17
    · omega
  | none =>
    have honly {slot n} (h : Ranked q slot n) : q.pulse = true ∧ n = 25 := by
      obtain h | ⟨d, hd⟩ | ⟨d, hd⟩ | ⟨d, hd⟩ | h := h
      · exact absurd h hrecal
      · exact absurd hd (not_holdsKind_of_firstGroup_none hrel)
      · exact absurd hd (not_holdsKind_of_firstGroup_none hcon)
      · exact absurd hd (not_holdsKind_of_firstGroup_none hcla)
      · exact ⟨h, rfl⟩
    have hpulse := (honly hheld).1
    exact ⟨.pulse, 25, by simp [chooseSlot, hrecal, hrel, hcon, hcla, hpulse], .pulse hpulse,
      fun _ _ h => (honly h).2.ge⟩

end

/-! ### The content taken (06, R107) -/

/-- A strength is the delta clipped (02, R21). -/
theorem strengthOf_eq_clipped (r : Chan) : strengthOf r = r.delta.map clipped := by
  refine congrArg (Option.map · r.delta) (funext fun d => ?_)
  simp only [clipped, Config.maxStrength]
  split
  · omega
  · split <;> omega

theorem contentOf_group {s : State} {g : Group} {gf : GroupFrame} (h : s.queue.groups[g].frame = some gf) :
    contentOf s (.group g) = some (groupContent s g gf) := by
  rw [contentOf, h, Option.map_some]

theorem groupContent_claim {s : State} {g : Group} {c : Channel} {d : Int} (h : s.chans[c].delta = some d) :
    groupContent s g (.claim c) = .claim (clipped d) s.number g c := by
  rw [groupContent, strengthOf_eq_clipped, h, Option.map_some, Option.getD_some]

/-- A held slot has content to send. -/
theorem contentOf_of_held {s : State} {slot : TxSlot} (h : slotHeld s.queue slot = true) :
    ∃ f, contentOf s slot = some f := by
  cases slot with
  | recal => exact ⟨_, rfl⟩
  | pulse => exact ⟨_, rfl⟩
  | group g =>
    obtain ⟨gf, hgf⟩ := Option.isSome_iff_exists.mp h
    exact ⟨_, contentOf_group hgf⟩

/-- The listing of group `g` in this station's PULSE, none where the group is not OWNED here. -/
def ownHolding (s : State) (g : Group) : Option (Group × Channel) :=
  match s.table.entries[g] with
  | .owned h _ _ => if h.station = s.number then some (g, h.channel) else none
  | _ => none

theorem ownHoldings_eq_filterMap (s : State) : ownHoldings s = (List.finRange 8).filterMap (ownHolding s) := rfl

theorem ownHolding_eq_some_iff {s : State} {d g : Group} {c : Channel} :
    ownHolding s d = some (g, c) ↔
      d = g ∧ ∃ st since, s.table.entries[g] = .owned { station := s.number, channel := c } st since := by
  rw [ownHolding]
  constructor
  · intro h
    split at h
    next holder st since hentry =>
      split at h
      next hstation =>
        cases h
        exact ⟨rfl, st, since, by rw [hentry, ← hstation]⟩
      next => cases h
    next => cases h
  · rintro ⟨rfl, st, since, hentry⟩
    simp [hentry]

theorem mem_ownHoldings_iff {s : State} {g : Group} {c : Channel} :
    (g, c) ∈ ownHoldings s ↔
      ∃ st since, s.table.entries[g] = .owned { station := s.number, channel := c } st since := by
  simp [ownHoldings_eq_filterMap, ownHolding_eq_some_iff]

/-- The holdings stand in ascending group order. -/
theorem ownHoldings_pairwise (s : State) :
    ((ownHoldings s).map fun pair => pair.1.val).Pairwise (· < ·) := by
  rw [ownHoldings_eq_filterMap, List.pairwise_map]
  refine (List.pairwise_lt_finRange 8).filterMap _ fun d d' hlt => ?_
  rintro ⟨g, c⟩ hg ⟨g', c'⟩ hg'
  obtain ⟨rfl, -⟩ := ownHolding_eq_some_iff.mp hg
  obtain ⟨rfl, -⟩ := ownHolding_eq_some_iff.mp hg'
  exact hlt

/-! ### The attempt start (05, R93) -/

theorem exec_attemptStart {s : State} {slot : TxSlot} {f : Frame} (hreset : s.inReset = false)
    (honline : s.ctrl.state = .online) (hidle : s.link.line = .idle) (hnone : s.link.attempt = none)
    (hslot : chooseSlot s.queue = some slot) (hf : contentOf s slot = some f) :
    exec .attemptStart s = .next (startOn slot f s) := by
  simp [exec, execAttemptStart, outOfReset, startAttempt, nextAttempt, State.online, hreset, honline, hidle,
    hnone, hslot, hf]

/-- Settles O27: the slot of `chooseSlot` is held and first in order, and its content is that of
`contentOf`, by the slot's kind. -/
theorem attemptStartsOnTheFirstSlot : Obligations.AttemptStartsOnTheFirstSlot := by
  rintro s hreset honline hidle hnone ⟨held, hheld⟩
  obtain ⟨slot, n, hslot, hranked, hfirst⟩ := chooseSlot_first (ranked_attemptRank hheld)
  obtain ⟨f, hf⟩ := contentOf_of_held hranked.slotHeld
  refine ⟨startOn slot f s, slot, f, exec_attemptStart hreset honline hidle hnone hslot hf, hranked.slotHeld,
    ?first, rfl, ?recal, ?release, ?confirm, ?claim, ?pulse⟩
  case first =>
    intro other hother
    rw [hranked.attemptRank_eq]
    exact hfirst _ _ (ranked_attemptRank hother)
  case recal =>
    rintro rfl
    exact (Option.some.inj hf).symm
  case release =>
    rintro g c reason rfl hframe
    exact Option.some.inj (hf.symm.trans (contentOf_group hframe))
  case confirm =>
    rintro g c rfl hframe
    exact Option.some.inj (hf.symm.trans (contentOf_group hframe))
  case claim =>
    rintro g c d rfl hframe hdelta
    rw [contentOf_group hframe, groupContent_claim hdelta] at hf
    exact (Option.some.inj hf).symm
  case pulse =>
    rintro rfl
    exact ⟨ownHoldings s, (Option.some.inj hf).symm, fun _ _ => mem_ownHoldings_iff, ownHoldings_pairwise s⟩

end Sys2Proof.Machine
end

section
/-! PROOF. A RECAL heard empties the claim table and the queue and re-seeds the tracker (02, R39; 03, R56; 06,
R112; 07, R133). First what a RECAL does to one record and to each block, then that it leaves nothing for an
evaluation to change, so that a RECAL delivered is one equation for the whole state; then the statement. -/

namespace Sys2Proof.Machine

/-! ### One record at a RECAL (02, R39) -/

theorem recalChan_eq (isKey isRef : Bool) (r : Chan) :
    recalChan isKey isRef r =
      if (isKey = true ∧ r.state ≠ .off ∧ r.state ≠ .faulted)
          ∨ (isRef = true ∧ (r.state = .idle ∨ r.state = .seeding)) then toSeeding r
      else r := by
  cases h : r.state <;> simp [recalChan, h]

/-- A candidate that a RECAL leaves was one before, and of no key channel. -/
theorem recalChan_candidate {isKey isRef : Bool} {r : Chan}
    (h : (recalChan isKey isRef r).state = .candidate) : r.state = .candidate ∧ isKey = false := by
  rw [recalChan_eq] at h
  split at h
  next => cases h
  next hkept =>
    refine ⟨h, ?_⟩
    simpa [h] using hkept

/-! ### Each block at a RECAL (02, R38, R39; 03, R56; 06, R112) -/

/-- The records of a RECAL heard: KEY-UP (RECAL) for each OWNED group, then HUSH-OFF where a hush ends (09,
R155). -/
def recalEvents (s : State) : List Event :=
  keyUps (fun _ => true) .recal s.table.entries
    ++ (if s.tracker.hushed then [Event.hushOff s.number none] else [])

section
variable (s : State)

theorem recalHeard_table : (recalHeard s).table = { s.table with entries := Vector.replicate 8 .free } := by
  simp [recalHeard, emptyTable]

theorem recalHeard_queue :
    (recalHeard s).queue = { s.queue with recal := false, groups := Vector.replicate 8 emptySlot } := by
  simp [recalHeard, dropForRecal]

theorem recalTracker_chans :
    (recalTracker s).chans
      = each (fun c r => recalChan (s.isKey c) (decide (s.tracker.settings.refHost = some c)) r)
        s.chans := by
  unfold recalTracker
  dsimp only
  split <;> rfl

theorem recalHeard_chans (c : Channel) :
    (recalHeard s).chans[c]
      = recalChan (s.isKey c) (decide (s.tracker.settings.refHost = some c)) s.chans[c] := by
  rw [recalHeard, recalTracker_chans]
  exact each_get _ _ c

/-- The condition under which a record re-seeds, on the station before the RECAL (02, R39). -/
theorem recalHeard_chans_eq (c : Channel) :
    (recalHeard s).chans[c] =
      if (s.isKey c = true ∧ s.chans[c].state ≠ .off ∧ s.chans[c].state ≠ .faulted)
          ∨ (s.tracker.settings.refHost = some c
            ∧ (s.chans[c].state = .idle ∨ s.chans[c].state = .seeding)) then toSeeding s.chans[c]
      else s.chans[c] := by
  rw [recalHeard_chans, recalChan_eq]
  simp only [decide_eq_true_eq]

theorem recalHeard_tracker :
    (recalHeard s).tracker
      = if s.tracker.hushed then { s.tracker with hushed := false, settle := none } else s.tracker := by
  by_cases h : s.tracker.hushed = true <;> simp [recalHeard, recalTracker, h]

theorem recalHeard_settings : (recalHeard s).tracker.settings = s.tracker.settings := by
  rw [recalHeard_tracker]
  split <;> rfl

theorem recalHeard_log : (recalHeard s).log = (recalEvents s).foldl logPut s.log := by
  by_cases h : s.tracker.hushed = true <;>
    simp [recalHeard, recalTracker, emptyTable, recalEvents, State.number, h]

end

/-! ### Cadence control and the evaluation after a RECAL (04, R72; 07, R133) -/

/-- Cadence control at a RECAL heard: the full quiet period in BRISK, nothing in SLACK (07, R133). -/
def cadAtRecal (s : State) : CadenceControl :=
  if s.cad.cadence = .brisk then { s.cad with quiet := .running s.tracker.settings.quietUs } else s.cad

/-- No group is left to any holder, no channel is a candidate and no group slot holds a frame: what a RECAL
leaves where every candidate was a key channel's. -/
structure NothingHeld (s : State) : Prop where
  entries : s.table.entries = Vector.replicate 8 .free
  slots : ∀ g : Group, s.queue.groups[g].frame = none
  candidates : ∀ c : Channel, s.chans[c].state ≠ .candidate

theorem nothingHeld_recalHeard {s : State}
    (hkey : ∀ c : Channel, s.chans[c].state = .candidate → s.isKey c = true) :
    NothingHeld (recalHeard s) where
  entries := by rw [recalHeard_table]
  slots g := by simp [recalHeard_queue, emptySlot]
  candidates c h := by
    rw [recalHeard_chans] at h
    obtain ⟨hcandidate, hnot⟩ := recalChan_candidate h
    rw [hkey c hcandidate] at hnot
    cases hnot

/-- A RECAL's report is made even of a table that was FREE, and a RECAL is no activity event (03, R45; 07,
R133). -/
theorem cadenceHears_recal (p : Station) (old : Vector Entry 8) {s : State}
    (hfree : s.table.entries = Vector.replicate 8 .free) :
    cadenceHears (.recal p) old s = { s with cad := cadAtRecal s } := by
  have hquiet : quietWith s s.table.entries = .running s.tracker.settings.quietUs := by
    have hidle : tableBusy (Vector.replicate 8 .free) = false := by decide
    rw [quietWith, hfree, hidle]
    rfl
  have hreport : cadenceHears (.recal p) old s = reportTable s := by
    simp [cadenceHears, isRecal, isActivity]
  rw [hreport, reportTable_eq, hquiet, cadAtRecal]

/-- With no candidate and no CLAIM queued an evaluation has nothing to change (04, R72, R73). -/
theorem evaluate_of_nothingHeld (which : Group → Bool) {s : State} (h : NothingHeld s) :
    evaluate which s = s := by
  have hout (g : Group) (c : Channel) : evaluated s g c = false := by
    simp only [evaluated, h.candidates c, decide_false, Bool.false_and]
  have hchan (c : Channel) : evaluatedChan s c s.chans[c] = s.chans[c] := by
    simp only [evaluatedChan, hout, Bool.false_and, Bool.false_eq_true, if_false]
  have hslot (g : Group) : evaluatedSlot s g = s.queue.groups[g] := by
    have hchoice : choice s g = none := by simp [choice, eligible, hout]
    simp only [evaluatedSlot, hchoice, claimWithdrawn, h.slots g, Bool.false_eq_true, if_false]
  have hchans : each (fun c r => if which r.setup.group then evaluatedChan s c r else r) s.chans
      = s.chans := by
    refine Vector.ext fun i hi => (each_get _ _ (⟨i, hi⟩ : Fin 16)).trans ?_
    rw [hchan, ite_self]
    rfl
  have hgroups : each (fun g sl => if which g then evaluatedSlot s g else sl) s.queue.groups
      = s.queue.groups := by
    refine Vector.ext fun i hi => (each_get _ _ (⟨i, hi⟩ : Fin 8)).trans ?_
    rw [hslot, ite_self]
    rfl
  unfold evaluate
  rw [hchans, hgroups, ite_self]

/-! ### A RECAL delivered (05, R91, R97) -/

/-- A peer's RECAL as an equation for the whole state. -/
theorem deliver_peer_recal {s : State} {p : Station} (hp : p ≠ s.number)
    (hkey : ∀ c : Channel, s.chans[c].state = .candidate → s.isKey c = true) :
    deliver (.recal p) none s =
      { recalHeard (peerHeard p s.roster[p].announced (afterFrame s)) with cad := cadAtRecal s } := by
  have hroster : rosterHears (.recal p) (afterFrame s) = peerHeard p s.roster[p].announced (afterFrame s) := by
    have hsender : senderOf (.recal p) ≠ (afterFrame s).number := hp
    simp only [rosterHears, hsender, if_false]
    rfl
  have hheard : NothingHeld (recalHeard (peerHeard p s.roster[p].announced (afterFrame s))) := by
    rw [peerHeard_eq]
    exact nothingHeld_recalHeard hkey
  have hcad : cadAtRecal (recalHeard (peerHeard p s.roster[p].announced (afterFrame s))) = cadAtRecal s := by
    simp [cadAtRecal, recalHeard_settings]
  simp only [deliver, tableHears, hroster, cadenceHears_recal _ _ hheard.entries, hcad]
  exact evaluate_of_nothingHeld _ ⟨hheard.entries, hheard.slots, hheard.candidates⟩

/-- The success of the own attempt of a RECAL that has been heard (05, R97; 06, R115). -/
theorem attemptSucceeds_recal (p : Station) (s : State) :
    attemptSucceeds .recal (.recal p) s = { s with
      queue := { s.queue with recal := false, inFlight := none, withdrawnInFlight := false }
      link := { s.link with attempt := none, linkLow := false, consecutive := 0 } } := rfl

/-- The success of an own RECAL as an equation for the whole state. -/
theorem deliver_own_recal {s : State}
    (hkey : ∀ c : Channel, s.chans[c].state = .candidate → s.isKey c = true) :
    deliver (.recal s.number) (some .recal) s =
      { attemptSucceeds .recal (.recal s.number) (recalHeard (afterFrame s)) with cad := cadAtRecal s } := by
  have hroster : rosterHears (.recal s.number) (afterFrame s) = afterFrame s := by
    have hsender : senderOf (.recal s.number) = (afterFrame s).number := rfl
    simp only [rosterHears, hsender, if_true]
  have hheard : NothingHeld (recalHeard (afterFrame s)) := nothingHeld_recalHeard hkey
  have hcad : cadAtRecal (attemptSucceeds .recal (.recal s.number) (recalHeard (afterFrame s)))
      = cadAtRecal s := by
    simp [cadAtRecal, attemptSucceeds_recal, recalHeard_settings]
  have hended : NothingHeld (attemptSucceeds .recal (.recal s.number) (recalHeard (afterFrame s))) :=
    ⟨hheard.entries, hheard.slots, hheard.candidates⟩
  simp only [deliver, tableHears, hroster, cadenceHears_recal _ _ hended.entries, hcad, leavesNow,
    slotGroup, Bool.false_eq_true, if_false]
  exact evaluate_of_nothingHeld _ ⟨hended.entries, hended.slots, hended.candidates⟩

/-- An own frame of which every bit read back was read as sent is delivered as its attempt's success (05,
R97). -/
theorem exec_frameHeard_own {a : Attempt} {s : State} (h : Sends a s) :
    exec (.frameHeard a.frame) s = .next (deliver a.frame (some a.slot) s) := by
  obtain ⟨hreset, hrecv, hatt, hwf, hbits⟩ := h
  have hread : readAsSent a s.link.line = true := by
    cases hline : s.link.line with
    | receiving bits => rwa [hline] at hbits
    | stopped | idle | seeking => rfl
  simp [exec, execFrameHeard, outOfReset, hear, hreset, hrecv, hatt, hwf, hread]

/-! ### The statement (03, R56; 07, R133) -/

/-- The entry of a peer heard by a frame other than a PULSE (07, R120, R122). -/
theorem heardEntry_announced (e : RosterEntry) : heardEntry e.announced = heardAgain e := by
  obtain ⟨present, lastHeard, announced⟩ := e
  rcases announced with _ | ⟨_ | _, hushed, stirred, holdings⟩ <;> rfl

/-- Settles O17: a RECAL delivered is `recalHeard` with `cadAtRecal`, since it leaves nothing to evaluate. -/
theorem recalHeardEmptiesAndReseeds : Obligations.RecalHeardEmptiesAndReseeds := by
  intro s hkey
  refine ⟨fun p hreceives hp => ?peer, fun a hsends hslot hframe => ?own⟩
  case peer =>
    refine ⟨_, (exec_frameHeard_peer hreceives hp).trans (congrArg _ (deliver_peer_recal hp hkey)), ?_⟩
    simp only [peerHeard_eq, heardEntry_announced]
    refine ⟨recalHeard_table _, recalHeard_queue _, recalHeard_chans_eq _, recalHeard_tracker _, ?records, rfl,
      by simp, by simp, by simp [SameOutsidePanel, recalHeard_settings]⟩
    case records =>
      rw [List.foldl_append]
      exact recalHeard_log _
  case own =>
    rw [exec_frameHeard_own hsends, hslot, hframe, deliver_own_recal hkey, attemptSucceeds_recal]
    exact ⟨_, rfl, recalHeard_table _, by simp [recalHeard_queue], recalHeard_chans_eq _,
      recalHeard_tracker _, recalHeard_log _, rfl, by simp, by simp,
      by simp [SameOutsidePanel, recalHeard_settings]⟩

end Sys2Proof.Machine
end

section
/-! PROOF. A record handed to the log is admitted or counted (09, R154, R156). First the log's two byte
counters in numbers, then the statement by the two cases of `logPut`. -/

namespace Sys2Proof.Machine

/-! ### The record number and the lost count in numbers -/

/-- The next record number, with its wrap past 255 (09, R154). -/
theorem byte_succ_eq (n : Byte) : n + 1#8 = BitVec.ofNat 8 ((n.toNat + 1) % 256) := by
  apply BitVec.eq_of_toNat_eq
  simp

/-- The lost count goes up by one and stays at 255 (09, R156). -/
theorem satIncByte_eq (n : Byte) : satIncByte n = BitVec.ofNat 8 (min 255 (n.toNat + 1)) := by
  unfold satIncByte
  split
  next hmax => subst hmax; rfl
  next hbelow =>
    have hlt : n.toNat < 255 := by bv_omega
    rw [Nat.min_eq_right hlt, byte_succ_eq, Nat.mod_eq_of_lt (Nat.succ_lt_succ hlt)]

/-! ### The statement (09, R154, R156) -/

/-- Settles O51: the two cases of `logPut`, each of which shuts out the other's premise. -/
theorem logAdmitsOrCountsEachRecord : Obligations.LogAdmitsOrCountsEachRecord := by
  intro s e
  refine ⟨rfl, ?_⟩
  rw [State.put_log, logPut_clock]
  obtain ⟨hroom, hadmitted⟩ | ⟨hfull, hrefused⟩ := logPut_cases s.log e
  · rw [hadmitted]
    exact ⟨fun _ => ⟨rfl, byte_succ_eq _, rfl, rfl⟩, fun h => absurd hroom (Nat.not_lt.mpr h), rfl⟩
  · rw [hrefused]
    exact ⟨fun h => absurd h (Nat.not_lt.mpr hfull), fun _ => ⟨rfl, rfl, rfl, satIncByte_eq _⟩, rfl⟩

end Sys2Proof.Machine
end

section
/-! PROOF. The proofs from here on are elaborated one after another: each further thread reserves stack, and proofs
elaborated side by side, waiting for one another, start more threads than the check's memory limit holds. -/

set_option Elab.async false

section
/-! PROOF. Everything a step can do, said once. A command outside a reset answers the state its event gives
(`eventEffect`); a step is an idle bit time, the tick, a reset, a write of the setup block or one of the events
of `Change`, with whatever the host port then holds. The invariants are proved over these ways. -/

namespace Sys2Proof.Machine

/-! ### The event of a command -/

/-- The state that each command's event gives where the station is not held in reset. -/
def eventEffect : Instr → State → State
  | .fullReset straps => fullResetWith straps
  | .conversionCompletion count => completeConversion count
  | .waitTimerExpiry => waitExpires
  | .frameHeard frame =>
    fun t => if frame.wellFormed ∧ receiving t.ctrl.state = true then hear frame t else t
  | .frameDiscarded bits => discard bits
  | .attemptStart => startAttempt
  | .attemptFailure bit => fun t => match t.link.attempt with
    | some a =>
      if canFailAt a.frame bit = true ∧ endsAt a t.link.line bit = true then failAttempt a.slot t else t
    | none => t
  | .lossOfArbitration bit => fun t => match t.link.attempt with
    | some a =>
      if canLoseAt a.frame bit = true ∧ endsAt a t.link.line bit = true then loseArbitration a bit t else t
    | none => t
  | .contestTimerExpiry g => contestExpires g
  | .abandonTimerExpiry g => abandonExpires g
  | .guardTimerExpiry g => guardExpires g
  | .holdTimerExpiry c => holdExpires c
  | .pulseIntervalTimerExpiry => intervalExpires
  | .lastHeardTimerExpiry p => peerExpires p
  | .quietTimerExpiry => quietExpires
  | .setupHoldTimerExpiry => setupHoldExpires
  | .listenTimerExpiry => listenExpires
  | .muteTimerExpiry => muteExpires
  | .millisecondClockTick => tickMillisecond
  | .hostTransactionStart b => startTransaction b
  | .hostTransactionEnd how => endTransaction how
  | .join => takeJoin
  | .restart => takeRestart
  | .reseed => takeReseed
  | .panelRecal => takePanelRecal
  | .leave => takeLeave
  | .clearCounters => takeClearCounters
  | .unknownCommand code => fun t => if isCommand code then t else setResult .badArgument t
  | .setupWindowWrite v => fun t =>
    if writing t = true ∧ inSetupWindow t.host.index = true then wroteByte (writeSetup v t) else t
  | .cursorWrite v => fun t =>
    if writing t = true ∧ isCursorIndex t.host.index = true then wroteByte (writeCursor v t) else t
  | .registerWrite v => fun t =>
    if indexDue t = true then takeIndex v t
    else if writing t = true ∧ inSetupWindow t.host.index = false ∧ isCursorIndex t.host.index = false then
      wroteByte (writeRegister v t)
    else t
  | .recordWindowRead ack => fun t =>
    if sending t = true ∧ inRecordWindow t.host.index = true then readRecord ack t else t
  | .eventWindowRead ack => fun t =>
    if sending t = true ∧ inEventWindow t.host.index = true then readEvent ack t else t
  | .valueLatchRead ack => fun t =>
    if sending t = true ∧ inRecordWindow t.host.index = false ∧ inEventWindow t.host.index = false then
      readValue ack t
    else t
  | .lineIdle => lineIdle
  | .startBitRead => startBitRead
  | .resetAsserted => holdInReset

/-- Out of reset every command answers its event's state. -/
theorem exec_running {s : State} (h : s.inReset = false) (c : Instr) :
    exec c s = .next (eventEffect c s) := by
  have hout (effect : State → State) : outOfReset effect s = effect s := by simp [outOfReset, h]
  cases c with
  | fullReset straps => rfl
  | resetAsserted => rfl
  | _ => exact congrArg Host.Outcome.next (hout _)

/-- Held in reset every command but the two of the reset changes nothing (log 9). -/
theorem exec_held {s : State} (h : s.inReset = true) {c : Instr} (hfull : ∀ straps, c ≠ .fullReset straps)
    (hassert : c ≠ .resetAsserted) : exec c s = .next s := by
  have hout (effect : State → State) : outOfReset effect s = s := by simp [outOfReset, h]
  cases c with
  | fullReset straps => exact absurd rfl (hfull straps)
  | resetAsserted => exact absurd rfl hassert
  | _ => exact congrArg Host.Outcome.next (hout _)

/-- Every command answers its event's state or, held in reset, changes nothing. -/
theorem exec_cases {c : Instr} {s t : State} (h : exec c s = .next t) :
    t = eventEffect c s
      ∨ (t = s ∧ (∀ straps, c ≠ .fullReset straps) ∧ c ≠ .resetAsserted) := by
  by_cases hrunning : s.inReset = false
  · rw [exec_running hrunning] at h
    exact .inl (Host.Outcome.next.inj h).symm
  · have hheld : s.inReset = true := by simpa using hrunning
    by_cases hfull : ∃ straps, c = .fullReset straps
    · obtain ⟨straps, rfl⟩ := hfull
      exact .inl (Host.Outcome.next.inj h).symm
    by_cases hassert : c = .resetAsserted
    · subst hassert
      exact .inl (Host.Outcome.next.inj h).symm
    have hnotfull : ∀ straps, c ≠ .fullReset straps := fun straps e => hfull ⟨straps, e⟩
    rw [exec_held hheld hnotfull hassert] at h
    exact .inr ⟨(Host.Outcome.next.inj h).symm, hnotfull, hassert⟩

/-! ### The ways a step changes the station -/

/-- What the events of a running station can make of it, but for the host port: each with what it
presupposes. -/
inductive Change (s : State) : State → Prop
  | nothing : Change s s
  | taken : Change s { s with log := logTake s.number s.log }
  | converted (slot : Slot) (n : Nat) (hconv : s.front.conversion = some (slot, 0))
      (hn : n ≤ Config.maxCount) : Change s (scanProceeds slot (seedingReport (slotConversion slot n s)))
  | waited (hwait : s.front.waitTimer = some 0) : Change s (beginScan s)
  | ownHeard (a : Attempt) (hwf : a.frame.WellFormed) (hrecv : receiving s.ctrl.state = true)
      (hatt : s.link.attempt = some a) : Change s (deliver a.frame (some a.slot) s)
  | peerHeard (f : Frame) (hwf : f.WellFormed) (hrecv : receiving s.ctrl.state = true)
      (hnone : s.link.attempt = none) (hpeer : senderOf f ≠ s.number) : Change s (deliver f none s)
  | twinHeard (hrecv : receiving s.ctrl.state = true) (hnone : s.link.attempt = none) :
      Change s (enterStopped .halted s)
  | discarded (bits : List Bool) (run : Nat) (hline : s.link.line = .receiving bits)
      (hnone : s.link.attempt = none) :
      Change s { s with link := { s.link with line := .seeking run, rxErrors := satInc s.link.rxErrors } }
  | turnedIdle (run : Nat) (hline : s.link.line = .seeking run) :
      Change s { s with link := { s.link with line := .idle } }
  | startBit (hline : s.link.line = .idle) : Change s { s with link := linkReads false s.link }
  | attemptStarted (slot : TxSlot) (f : Frame) (honline : s.ctrl.state = .online)
      (hline : s.link.line = .idle) (hnone : s.link.attempt = none) (hslot : chooseSlot s.queue = some slot)
      (hf : contentOf s slot = some f) : Change s (startOn slot f s)
  | attemptFailed (a : Attempt) (hatt : s.link.attempt = some a) : Change s (failAttempt a.slot s)
  | arbitrationLost (a : Attempt) (bit : Nat) (hatt : s.link.attempt = some a) :
      Change s (loseArbitration a bit s)
  | contestEnded (g : Group) (h : Holder) (st abandon : Nat)
      (he : s.table.entries[g] = .contested h st abandon (some 0)) :
      Change s ((s.setEntry g (.contested h st abandon none)).requestConfirm g h.channel)
  | abandonEnded (g : Group) (h : Holder) (st : Nat) (contest : Option Nat)
      (he : s.table.entries[g] = .contested h st 0 contest) : Change s (abandonExpires g s)
  | guardEnded (g : Group) (he : s.table.entries[g] = .guarded 0) :
      Change s (handOnChanges s.table.entries (s.setEntry g .free))
  | holdEnded (c : Channel) (hstate : s.chans[c].state = .pressed) :
      Change s ((leaveClaimSide .stuck c s).setChan c (toSeeding s.chans[c]))
  | intervalEnded :
      Change s (({ s with queue := { s.queue with intervalTimer := none } }).requestPulse true)
  | peerLost (p : Station) (hpresent : s.roster[p].present = true)
      (hheard : s.roster[p].lastHeard = some 0) : Change s (peerExpires p s)
  | quietEnded (hquiet : s.cad.quiet = .running 0) :
      Change s (changeCadence .slack { s with cad := { s.cad with quiet := .stopped } })
  | setupRefused (hstate : s.ctrl.state = .setup) : Change s (stopSetupHold s)
  | joined (hstate : s.ctrl.state = .setup) : Change s (enterSeeding (stopSetupHold s))
  | rejoined (hstate : s.ctrl.state = .offline) : Change s (enterSeeding s)
  | restarted (hstate : s.ctrl.state ≠ .setup) : Change s (restartStation s)
  | listenEnded (hstate : s.ctrl.state = .listen) : Change s (enterOnline s)
  | muteEnded (hstate : s.ctrl.state = .muted) : Change s (enterListen s)
  | reseeded (c : Channel) (hkey : s.isKey c = true) (hoff : s.chans[c].state ≠ .off) :
      Change s (reseedChannel c s)
  | recalQueued (honline : s.ctrl.state = .online) :
      Change s { s with queue := { s.queue with recal := true } }
  | leaveAsked (honline : s.ctrl.state = .online) :
      Change s (({ s with ctrl := { s.ctrl with leavePending := true } }).requestPulse false)
  | left (hstate : s.ctrl.state = .seeding ∨ s.ctrl.state = .listen ∨ s.ctrl.state = .muted) :
      Change s (enterStopped .offline s)
  | cleared : Change s { s with
      table := { s.table with stray := 0#16, abandoned := 0#16 }
      link := { s.link with rxErrors := 0#16, txFailures := 0#16 } }

/-- `t` is what a change makes of `s`, with whatever the host port then holds. -/
def Changes (s t : State) : Prop := ∃ u, Change s u ∧ ∃ port, t = { u with host := port }

theorem Change.changes {s t : State} (h : Change s t) : Changes s t := ⟨t, h, t.host, rfl⟩

/-- `t` is `s` but for what the host port holds. -/
def HostOnly (s t : State) : Prop := ∃ port, t = { s with host := port }

/-- A change of the host port alone. -/
theorem changes_host (s : State) (port : HostPort) : Changes s { s with host := port } :=
  ⟨s, .nothing, port, rfl⟩

theorem HostOnly.changes {s t : State} (h : HostOnly s t) : Changes s t := by
  obtain ⟨port, rfl⟩ := h
  exact changes_host s port

/-- The host port may change once more after a change. -/
theorem Changes.host {s t : State} (h : Changes s t) (port : HostPort) :
    Changes s { t with host := port } := by
  obtain ⟨u, hu, _, rfl⟩ := h
  exact ⟨u, hu, port, rfl⟩

section
variable (s : State)

theorem hear_changes {f : Frame} (hwf : f.wellFormed = true) (hrecv : receiving s.ctrl.state = true) :
    Changes s (hear f s) := by
  have hwf' := (Frame.wellFormed_iff f).mp hwf
  unfold hear
  split
  next a hatt =>
    split
    next h => obtain ⟨rfl, -⟩ := h; exact (Change.ownHeard a hwf' hrecv hatt).changes
    next => exact Change.nothing.changes
  next hnone =>
    split
    · split
      · split
        next => exact (Change.twinHeard hrecv hnone).changes
        next hpeer => exact (Change.peerHeard f hwf' hrecv hnone hpeer).changes
      · exact Change.nothing.changes
    · exact Change.nothing.changes

theorem discard_changes (bits : List Bool) : Changes s (discard bits s) := by
  unfold discard
  split
  next read run hline hnone _ =>
    split
    · exact (Change.discarded read run hline hnone).changes
    · exact Change.nothing.changes
  next => exact Change.nothing.changes

theorem startAttempt_changes : Changes s (startAttempt s) := by
  unfold startAttempt
  split
  next h =>
    obtain ⟨honline, hline, hnone⟩ := h
    split
    next slot f hnext =>
      have honline' : s.ctrl.state = .online := by simpa [State.online] using honline
      unfold nextAttempt at hnext
      split at hnext
      next slot' hslot =>
        obtain ⟨f', hf, hpair⟩ := Option.map_eq_some_iff.mp hnext
        obtain ⟨rfl, rfl⟩ := Prod.mk.inj hpair
        exact (Change.attemptStarted _ _ honline' hline hnone hslot hf).changes
      next => cases hnext
    next => exact Change.nothing.changes
  next => exact Change.nothing.changes

theorem completeConversion_changes (n : Nat) : Changes s (completeConversion n s) := by
  unfold completeConversion
  split
  next slot hconv =>
    split
    next hn => exact (Change.converted slot n hconv hn).changes
    next => exact Change.nothing.changes
  next => exact Change.nothing.changes

theorem tryJoin_changes (hstate : s.ctrl.state = .setup) : Changes s (tryJoin s) := by
  unfold tryJoin
  split
  · exact (Change.setupRefused hstate).changes.host _
  · exact (Change.joined hstate).changes

theorem takeJoin_changes : Changes s (takeJoin s) := by
  unfold takeJoin
  split
  next hstate =>
    split
    · exact tryJoin_changes s hstate
    · exact (tryJoin_changes s hstate).host _
  next hstate => exact (Change.rejoined hstate).changes.host _
  next => exact changes_host s _

theorem takeRestart_changes : Changes s (takeRestart s) := by
  unfold takeRestart
  split
  next => exact changes_host s _
  next hstate => exact (Change.restarted hstate).changes.host _

theorem takeReseed_changes : Changes s (takeReseed s) := by
  unfold takeReseed
  split
  next hc =>
    split
    next h => exact (Change.reseeded _ h.1 h.2).changes.host _
    next => exact changes_host s _
  next => exact changes_host s _

theorem takePanelRecal_changes : Changes s (takePanelRecal s) := by
  unfold takePanelRecal
  split
  next honline =>
    split
    · exact changes_host s _
    · exact (Change.recalQueued (by simpa [State.online] using honline)).changes.host _
  next => exact changes_host s _

theorem takeLeave_changes : Changes s (takeLeave s) := by
  unfold takeLeave
  split
  next honline =>
    split
    · exact changes_host s _
    · exact (Change.leaveAsked honline).changes.host _
  next hstate => exact (Change.left (.inl hstate)).changes.host _
  next hstate => exact (Change.left (.inr (.inl hstate))).changes.host _
  next hstate => exact (Change.left (.inr (.inr hstate))).changes.host _
  next => exact changes_host s _

theorem takeCommand_changes (code : Byte) : Changes s (takeCommand code s) := by
  unfold takeCommand
  split_ifs
  · exact takeJoin_changes s
  · exact takeRestart_changes s
  · exact takeReseed_changes s
  · exact takePanelRecal_changes s
  · exact takeLeave_changes s
  · exact Change.cleared.changes.host _
  · exact changes_host s _

/-- A take is handed on by a READ and a command by a WRITE, so a transaction end hands on one of the two at
most. -/
theorem handsCommand_of_handsTake {how : BusEnd} (h : handsTake how s = true) : handsCommand s = none := by
  unfold handsTake at h
  split at h
  next tr _ htr _ =>
    have hread : tr.direction = .read := by
      simp only [Bool.and_eq_true, decide_eq_true_eq] at h
      exact h.1.1
    simp [handsCommand, htr, hread]
  next => cases h

theorem endTransaction_changes (how : BusEnd) : Changes s (endTransaction how s) := by
  unfold endTransaction
  split
  · exact Change.nothing.changes
  by_cases htake : handsTake how s = true
  · simp only [htake, if_true, handsCommand_of_handsTake s htake]
    exact Change.taken.changes.host _
  · simp only [htake, if_false, Bool.false_eq_true]
    split
    · exact (takeCommand_changes s _).host _
    · exact changes_host s _

theorem startTransaction_changes (b : Byte) : Changes s (startTransaction b s) := by
  unfold startTransaction
  dsimp only
  split
  · exact (endTransaction_changes s .repeatedStart).host _
  · exact (endTransaction_changes s .repeatedStart).host _

theorem hostOnly_ite {p : Prop} [Decidable p] {t u : State} (ht : HostOnly s t) (hu : HostOnly s u) :
    HostOnly s (if p then t else u) := by
  split
  · exact ht
  · exact hu

/-- What a byte read sends leaves everything but the host port. -/
theorem readValue_hostOnly (ack : Bool) : HostOnly s (readValue ack s) := by
  unfold readValue
  extract_lets
  repeat' apply hostOnly_ite s
  all_goals exact ⟨_, rfl⟩

/-- A byte read, from a window or not, leaves everything but the host port. -/
theorem read_hostOnly (ack : Bool) :
    HostOnly s (eventEffect (.recordWindowRead ack) s) ∧ HostOnly s (eventEffect (.eventWindowRead ack) s)
      ∧ HostOnly s (eventEffect (.valueLatchRead ack) s) := by
  refine ⟨?_, ?_, ?_⟩ <;> refine hostOnly_ite s ?_ ⟨s.host, rfl⟩
  · exact ⟨_, rfl⟩
  · exact ⟨_, rfl⟩
  · exact readValue_hostOnly s ack

/-- The commands whose event is none of a reset, the tick and a write of the setup window. -/
def isEvent : Instr → Bool
  | .fullReset _ => false
  | .resetAsserted => false
  | .millisecondClockTick => false
  | .setupWindowWrite _ => false
  | _ => true

/-- Everything such a command's event can do. -/
theorem eventEffect_changes {c : Instr} (hc : isEvent c = true) : Changes s (eventEffect c s) := by
  cases c with
  | fullReset | resetAsserted | millisecondClockTick | setupWindowWrite => cases hc
  | conversionCompletion n => exact completeConversion_changes s n
  | waitTimerExpiry =>
    show Changes s (waitExpires s)
    unfold waitExpires
    split
    next hwait => exact (Change.waited hwait).changes
    next => exact Change.nothing.changes
  | frameHeard f =>
    show Changes s (if _ then _ else _)
    split
    next h => exact hear_changes s h.1 h.2
    next => exact Change.nothing.changes
  | frameDiscarded bits => exact discard_changes s bits
  | attemptStart => exact startAttempt_changes s
  | attemptFailure bit =>
    simp only [eventEffect]
    split
    next a hatt =>
      split
      · exact (Change.attemptFailed a hatt).changes
      · exact Change.nothing.changes
    next => exact Change.nothing.changes
  | lossOfArbitration bit =>
    simp only [eventEffect]
    split
    next a hatt =>
      split
      · exact (Change.arbitrationLost a bit hatt).changes
      · exact Change.nothing.changes
    next => exact Change.nothing.changes
  | contestTimerExpiry g =>
    show Changes s (contestExpires g s)
    unfold contestExpires
    split
    next h st abandon he => exact (Change.contestEnded g h st abandon he).changes
    next => exact Change.nothing.changes
  | abandonTimerExpiry g =>
    show Changes s (abandonExpires g s)
    by_cases he : ∃ h st contest, s.table.entries[g] = .contested h st 0 contest
    · obtain ⟨h, st, contest, he⟩ := he
      exact (Change.abandonEnded g h st contest he).changes
    · unfold abandonExpires
      split
      next h st contest he' => exact absurd ⟨h, st, contest, he'⟩ he
      next => exact Change.nothing.changes
  | guardTimerExpiry g =>
    show Changes s (guardExpires g s)
    unfold guardExpires
    split
    next he => exact (Change.guardEnded g he).changes
    next => exact Change.nothing.changes
  | holdTimerExpiry c =>
    show Changes s (holdExpires c s)
    unfold holdExpires
    split
    next h => exact (Change.holdEnded c h.1).changes
    next => exact Change.nothing.changes
  | pulseIntervalTimerExpiry =>
    show Changes s (intervalExpires s)
    unfold intervalExpires
    split
    · exact Change.intervalEnded.changes
    · exact Change.nothing.changes
  | lastHeardTimerExpiry p =>
    show Changes s (peerExpires p s)
    by_cases h : s.roster[p].present = true ∧ s.roster[p].lastHeard = some 0
    · exact (Change.peerLost p h.1 h.2).changes
    · rw [peerExpires, if_neg h]
      exact Change.nothing.changes
  | quietTimerExpiry =>
    show Changes s (quietExpires s)
    unfold quietExpires
    split
    next hquiet => exact (Change.quietEnded hquiet).changes
    next => exact Change.nothing.changes
  | setupHoldTimerExpiry =>
    show Changes s (setupHoldExpires s)
    unfold setupHoldExpires
    split
    next h => exact tryJoin_changes s h.1
    next => exact Change.nothing.changes
  | listenTimerExpiry =>
    show Changes s (listenExpires s)
    unfold listenExpires
    split
    next h => exact (Change.listenEnded h.1).changes
    next => exact Change.nothing.changes
  | muteTimerExpiry =>
    show Changes s (muteExpires s)
    unfold muteExpires
    split
    next h => exact (Change.muteEnded h.1).changes
    next => exact Change.nothing.changes
  | hostTransactionStart b => exact startTransaction_changes s b
  | hostTransactionEnd how => exact endTransaction_changes s how
  | join => exact takeJoin_changes s
  | restart => exact takeRestart_changes s
  | reseed => exact takeReseed_changes s
  | panelRecal => exact takePanelRecal_changes s
  | leave => exact takeLeave_changes s
  | clearCounters => exact Change.cleared.changes.host _
  | unknownCommand code =>
    simp only [eventEffect]
    split
    · exact Change.nothing.changes
    · exact changes_host s _
  | cursorWrite v =>
    simp only [eventEffect, writeCursor]
    split_ifs
    · exact changes_host s _
    · exact changes_host s _
    · exact Change.nothing.changes
  | registerWrite v =>
    simp only [eventEffect, writeRegister]
    split_ifs <;> exact changes_host s _
  | recordWindowRead ack => exact (read_hostOnly s ack).1.changes
  | eventWindowRead ack => exact (read_hostOnly s ack).2.1.changes
  | valueLatchRead ack => exact (read_hostOnly s ack).2.2.changes
  | lineIdle =>
    show Changes s (Sys2Proof.Machine.lineIdle s)
    unfold Sys2Proof.Machine.lineIdle
    split
    next run hline =>
      split
      · exact (Change.turnedIdle run hline).changes
      · exact Change.nothing.changes
    next => exact Change.nothing.changes
  | startBitRead =>
    show Changes s (Sys2Proof.Machine.startBitRead s)
    unfold Sys2Proof.Machine.startBitRead
    split
    next hline => exact (Change.startBit hline).changes
    next => exact Change.nothing.changes

end

/-- A write of the setup window stores in SETUP with the lock open, and else is only reported (10, R173). -/
theorem eventEffect_setupWindowWrite (v : Byte) (s : State) :
    (s.ctrl.state = .setup ∧ s.ctrl.lockOpen = true ∧ ∃ block port,
        eventEffect (.setupWindowWrite v) s
          = { s with ctrl := { s.ctrl with block := block }, host := port })
      ∨ Changes s (eventEffect (.setupWindowWrite v) s) := by
  by_cases hlock : s.ctrl.state = .setup ∧ s.ctrl.lockOpen = true
  · simp only [eventEffect, writeSetup, hlock]
    split
    · exact .inl ⟨trivial, trivial, _, _, rfl⟩
    · exact .inr Change.nothing.changes
  · refine .inr ?_
    simp only [eventEffect, writeSetup, hlock, if_false]
    split
    · exact changes_host s _
    · exact Change.nothing.changes

/-- Everything a step can do. -/
inductive StepWay (s : State) : State → Prop
  | idled : StepWay s (idle s)
  | ticked : StepWay s (tickMillisecond s)
  | reset (straps : Straps) : StepWay s (fullResetWith straps s)
  | held : StepWay s (holdInReset s)
  | setupWritten (block : SetupBlock) (port : HostPort) (hstate : s.ctrl.state = .setup)
      (hlock : s.ctrl.lockOpen = true) :
      StepWay s { s with ctrl := { s.ctrl with block := block }, host := port }
  | changed {t : State} (hc : Change s t) (port : HostPort) : StepWay s { t with host := port }

theorem Changes.stepWay {s t : State} (h : Changes s t) : StepWay s t := by
  obtain ⟨u, hc, port, rfl⟩ := h
  exact .changed hc port

theorem exec_way {c : Instr} {s t : State} (h : exec c s = .next t) : StepWay s t := by
  obtain rfl | ⟨rfl, -⟩ := exec_cases h
  · by_cases hc : isEvent c = true
    · exact (eventEffect_changes s hc).stepWay
    · cases c with
      | fullReset straps => exact .reset straps
      | resetAsserted => exact .held
      | millisecondClockTick => exact .ticked
      | setupWindowWrite v =>
        obtain ⟨hstate, hlock, block, port, heq⟩ | hchanges := eventEffect_setupWindowWrite v s
        · rw [heq]
          exact .setupWritten block port hstate hlock
        · exact hchanges.stepWay
      | _ => exact absurd rfl hc
  · exact Change.nothing.changes.stepWay

/-- Everything a step can do, once its command has left the queue. -/
theorem step_way {s t : State} (h : step s = .next t) : ∃ rest, StepWay { s with pending := rest } t := by
  unfold step at h
  split at h
  next => exact ⟨s.pending, Host.Outcome.next.inj h ▸ .idled⟩
  next c rest _ => exact ⟨rest, exec_way h⟩

end Sys2Proof.Machine
end

section
/-! PROOF. Every step keeps the event log coherent (09, R154 to R158). Every operation but a take, the tick
and a reset only hands records to the log (`LogExtends`); the statement is then the log's own rules over the
ways of `Change`. -/

namespace Sys2Proof.Machine

/-! ### A frame delivered, in its steps (05, R91) -/

/-- The station once the roster and the claim table have taken a frame. -/
def heardBy (f : Frame) (s : State) : State := tableHears f (rosterHears f (afterFrame s))

/-- The station once an own frame has been taken as a success, and cadence control has taken it too. -/
def succeededBy (slot : TxSlot) (f : Frame) (s : State) : State :=
  cadenceHears f s.table.entries (attemptSucceeds slot f (heardBy f s))

/-- The CONFIRM of the slot's group requested again where it is due (06, R117). -/
def confirmedAgain (slot : TxSlot) (s : State) : State :=
  match slotGroup slot with
  | some g => confirmAgain g s
  | none => s

@[simp] theorem confirmedAgain_keeps (slot : TxSlot) (s : State) :
    (confirmedAgain slot s).pending = s.pending ∧ (confirmedAgain slot s).wire = s.wire ∧
    (confirmedAgain slot s).inReset = s.inReset ∧ (confirmedAgain slot s).sinceTick = s.sinceTick ∧
    (confirmedAgain slot s).front = s.front ∧ (confirmedAgain slot s).chans = s.chans ∧
    (confirmedAgain slot s).tracker = s.tracker ∧ (confirmedAgain slot s).table = s.table ∧
    (confirmedAgain slot s).link = s.link ∧ (confirmedAgain slot s).roster = s.roster ∧
    (confirmedAgain slot s).cad = s.cad ∧ (confirmedAgain slot s).ctrl = s.ctrl ∧
    (confirmedAgain slot s).log = s.log ∧ (confirmedAgain slot s).host = s.host := by
  unfold confirmedAgain
  split <;> simp

theorem deliver_none (f : Frame) (s : State) :
    deliver f none s =
      evaluate (entryChanged s.table.entries
          (cadenceHears f s.table.entries (heardBy f s)).table.entries)
        (cadenceHears f s.table.entries (heardBy f s)) := rfl

theorem deliver_own (f : Frame) (slot : TxSlot) (s : State) :
    deliver f (some slot) s =
      if leavesNow f then enterStopped .offline (succeededBy slot f s)
      else evaluate (fun g =>
          entryChanged s.table.entries (confirmedAgain slot (succeededBy slot f s)).table.entries g
            || decide (slotGroup slot = some g))
        (confirmedAgain slot (succeededBy slot f s)) := rfl

/-! ### Records handed to the log (09, R154) -/

/-- The log `l'` is `l` with some records handed to it, one after another. -/
def LogExtends (l l' : EventLog) : Prop := ∃ es : List Event, l' = es.foldl logPut l

section
variable {l l' l'' : EventLog}

theorem LogExtends.refl (l : EventLog) : LogExtends l l := ⟨[], rfl⟩

theorem LogExtends.of_eq (h : l' = l) : LogExtends l l' := ⟨[], h⟩

theorem LogExtends.trans (h : LogExtends l l') (h' : LogExtends l' l'') : LogExtends l l'' := by
  obtain ⟨es, rfl⟩ := h
  obtain ⟨es', rfl⟩ := h'
  exact ⟨es ++ es', (List.foldl_append ..).symm⟩

theorem LogExtends.put (h : LogExtends l l') (e : Event) : LogExtends l (logPut l' e) :=
  h.trans ⟨[e], rfl⟩

theorem LogExtends.putAll (h : LogExtends l l') (es : List Event) : LogExtends l (es.foldl logPut l') :=
  h.trans ⟨es, rfl⟩

theorem LogExtends.inv (h : LogExtends l l') (hl : LogInv l) : LogInv l' := by
  obtain ⟨es, rfl⟩ := h
  exact foldl_logPut_inv es hl

theorem LogExtends.clock (h : LogExtends l l') : l'.clock = l.clock := by
  obtain ⟨es, rfl⟩ := h
  exact foldl_logPut_clock es l

end

/-! ### Each operation that hands records (03, 07, 08) -/

section
variable (s : State)

theorem changeCadence_log (c : Cadence) : (changeCadence c s).log = logPut s.log (.cadence s.number c) := by
  simp [changeCadence, State.number]

theorem activity_log (isLocal : Bool) : LogExtends s.log (activity isLocal s).log := by
  unfold activity
  split
  · simp only [stir_keeps, changeCadence_log]
    exact (LogExtends.refl _).put _
  · exact .of_eq (by simp)

theorem confirmHeard_log (h : Holder) (g : Group) : LogExtends s.log (confirmHeard h g s).log := by
  unfold confirmHeard
  (repeat' split) <;> simp only [press_keeps, State.put_log, State.setEntry_log, State.strayFrame_log]
  · exact (LogExtends.refl _).put _
  · exact .refl _
  · exact .refl _

theorem releaseHeard_log (h : Holder) (g : Group) (reason : Reason) :
    LogExtends s.log (releaseHeard h g reason s).log := by
  unfold releaseHeard
  (repeat' split) <;> simp only [State.put_log, State.setEntry_log, State.strayFrame_log]
  · exact .refl _
  · exact .refl _
  · exact (LogExtends.refl _).put _
  · exact .refl _
  · exact .refl _

theorem emptyTable_log (which : Holder → Bool) (reason : UpReason) :
    (emptyTable which reason s).log = (keyUps which reason s.table.entries).foldl logPut s.log := rfl

theorem freePeer_log (p : Station) (reason : UpReason) :
    (freePeer p reason s).log
      = (keyUps (fun h => decide (h.station = p)) reason s.table.entries).foldl logPut s.log := rfl

theorem resyncGroup_log (p : Station) (holdings : List (Group × Channel)) (g : Group) :
    LogExtends s.log (resyncGroup p holdings s g).log := by
  unfold resyncGroup
  dsimp only
  refine (LogExtends.of_eq ?_).putAll _
  (repeat' split) <;> rfl

theorem resync_log (p : Station) (holdings : List (Group × Channel)) :
    LogExtends s.log (resync p holdings s).log := by
  unfold resync
  induction List.finRange 8 generalizing s with
  | nil => exact .refl _
  | cons g gs ih => exact (resyncGroup_log s p holdings g).trans (ih _)

theorem peerHeard_log (p : Station) (announced : Option Announced) :
    (peerHeard p announced s).log = (joinedEvents s p).foldl logPut s.log := by
  rw [peerHeard_eq]

theorem peerLeaves_log (p : Station) : LogExtends s.log (peerLeaves p s).log := by
  unfold peerLeaves
  split
  · rw [freePeer_log]
    exact ((LogExtends.refl _).put _).putAll _
  · exact .refl _

theorem rosterHears_log (f : Frame) : LogExtends s.log (rosterHears f s).log := by
  have hpeer (p : Station) (announced : Option Announced) :
      LogExtends s.log (peerHeard p announced s).log := by
    rw [peerHeard_log]
    exact (LogExtends.refl _).putAll _
  unfold rosterHears
  split
  · split
    · exact .of_eq (by simp)
    · exact .refl _
  · split
    · split
      · exact peerLeaves_log s _
      · exact hpeer _ _
    · exact hpeer _ _

theorem tableHears_log (f : Frame) : LogExtends s.log (tableHears f s).log := by
  unfold tableHears
  split
  · exact ⟨_, recalHeard_log s⟩
  · exact releaseHeard_log s _ _ _
  · exact confirmHeard_log s _ _
  · exact .of_eq (by simp)
  · split
    · exact .refl _
    · exact resync_log s _ _

theorem cadenceHears_log (f : Frame) (old : Vector Entry 8) :
    LogExtends s.log (cadenceHears f old s).log := by
  have hreport : (if isRecal f || anyChanged old s.table.entries then reportTable s else s).log = s.log := by
    split <;> simp
  unfold cadenceHears
  dsimp only
  split
  · exact (LogExtends.of_eq hreport).trans (activity_log _ _)
  · exact .of_eq hreport

theorem seedingReport_log : LogExtends s.log (seedingReport s).log := by
  unfold seedingReport
  split
  · unfold enterListen logStation
    refine (LogExtends.of_eq ?_).put _
    split <;> simp
  · exact .refl _

theorem logCadenceStart_log (was : Cadence) : LogExtends s.log (logCadenceStart was s).log := by
  unfold logCadenceStart
  split
  · exact (LogExtends.refl _).put _
  · exact .refl _

theorem enterListen_log : LogExtends s.log (enterListen s).log := by
  unfold enterListen logStation
  refine (LogExtends.of_eq ?_).put _
  split <;> simp

theorem enterSeeding_log : LogExtends s.log (enterSeeding s).log := by
  unfold enterSeeding
  dsimp only
  refine LogExtends.trans ?_ (seedingReport_log _)
  refine LogExtends.trans ?_ (logCadenceStart_log _ _)
  unfold logStation
  refine LogExtends.put ?_ _
  simp only [startScanning_keeps, startCadence_keeps, startTracker_keeps, setStation_keeps]
  exact ⟨_, emptyTable_log s _ _⟩

theorem enterOnline_log : (enterOnline s).log = logPut s.log (.station s.number .online) := by
  simp [enterOnline, logStation, State.number, setStation]

theorem enterMuted_log : LogExtends s.log (enterMuted s).log := by
  unfold enterMuted logStation
  simp only [reportTable_keeps]
  refine LogExtends.put ?_ _
  simp only [setStation_keeps, State.clearFailureRun_log, ownEntry_keeps, keysToIdle_keeps,
    State.emptyTheQueue_log]
  exact ⟨_, emptyTable_log s _ _⟩

theorem enterStopped_log (st : StationState) : LogExtends s.log (enterStopped st s).log := by
  unfold enterStopped logStation
  refine LogExtends.put ?_ _
  split
  all_goals
    simp only [setStation_keeps, State.clearFailureRun_log, State.stopReceiver_log, stopTracker_keeps,
      stopScanning_keeps, keysToIdle_keeps, State.clearRoster_log, State.emptyTheQueue_log]
    exact ⟨_, emptyTable_log s _ _⟩

theorem deliver_log (f : Frame) (own : Option TxSlot) : LogExtends s.log (deliver f own s).log := by
  have hheard : LogExtends s.log (heardBy f s).log :=
    (rosterHears_log (afterFrame s) f).trans (tableHears_log _ f)
  cases own with
  | none =>
    rw [deliver_none]
    simp only [evaluate_keeps]
    exact hheard.trans (cadenceHears_log _ _ _)
  | some slot =>
    have hsucceeded : LogExtends s.log (succeededBy slot f s).log := by
      refine hheard.trans (LogExtends.trans (.of_eq ?_) (cadenceHears_log _ f s.table.entries))
      simp
    rw [deliver_own]
    split
    · exact hsucceeded.trans (enterStopped_log _ _)
    · simpa using hsucceeded

/-! ### The tracker's records (01, 02) -/

theorem faultedCount_log (c : Channel) (n : Nat) : LogExtends s.log (faultedCount c n s).log := by
  unfold faultedCount
  dsimp only
  split
  · exact (LogExtends.refl _).put _
  · exact .refl _

theorem carryOut_log (c : Channel) (out : Chan × Signal) : LogExtends s.log (carryOut c out s).log := by
  unfold carryOut
  split
  · exact .refl _
  · exact activity_log (s.setChan c out.1) true
  · exact activity_log (s.setChan c out.1) true
  · exact .of_eq (by simp)

theorem keyFault_log (c : Channel) (n : Nat) :
    (keyFault c n s).log = logPut s.log (.channelFault s.number c) := by
  simp [keyFault]

theorem keyConversion_log (c : Channel) (n : Nat) : LogExtends s.log (keyConversion c n s).log := by
  unfold keyConversion
  simp only [evaluate_keeps]
  unfold keyCount
  dsimp only
  split
  · exact .refl _
  · exact faultedCount_log s c n
  · split
    · exact ⟨[_], keyFault_log s c n⟩
    · exact carryOut_log s c _

theorem hushOn_log (d : Nat) : (hushOn d s).log = logPut s.log (.hushOn s.number d) := by
  simp [hushOn]

theorem refConversion_log (c : Channel) (n : Nat) : LogExtends s.log (refConversion c n s).log := by
  unfold refConversion
  dsimp only
  split
  · exact .refl _
  · exact faultedCount_log s c n
  split
  · unfold refFault
    dsimp only
    split
    · exact ((LogExtends.refl _).put _).put _
    · exact (LogExtends.refl _).put _
  split
  · exact .refl _
  · split
    · unfold refHushedCount
      dsimp only
      split
      · exact (LogExtends.refl _).put _
      · exact .refl _
    · unfold refIdleCount
      split
      · exact ⟨[_], hushOn_log _ _⟩
      · exact .refl _
  · exact .refl _

theorem slotConversion_log (slot : Slot) (n : Nat) : LogExtends s.log (slotConversion slot n s).log := by
  unfold slotConversion
  split
  · exact keyConversion_log s _ n
  · split
    · exact refConversion_log s _ n
    · exact .refl _

/-! ### Attempts and timers (05, 06, 03, 07) -/

theorem failAttempt_log (slot : TxSlot) : LogExtends s.log (failAttempt slot s).log := by
  unfold failAttempt
  dsimp only
  split
  · split
    · exact enterStopped_log { s with queue := queueEnd slot s.queue, link := failLink s.link } .offline
    · exact enterMuted_log { s with queue := queueEnd slot s.queue, link := failLink s.link }
  · exact .of_eq (by simp)

theorem abandonExpires_log (g : Group) : (abandonExpires g s).log = s.log := by
  unfold abandonExpires
  split <;> simp

theorem peerExpires_log (p : Station) : LogExtends s.log (peerExpires p s).log := by
  unfold peerExpires
  split
  · simp only [handOnChanges_keeps, freePeer_log]
    exact ((LogExtends.refl _).put _).putAll _
  · exact .refl _

end

/-! ### The statement -/

/-- Removing the head leaves the rest numbered as it was (09, R157, R158). -/
theorem logDropHead_inv {l : EventLog} (h : LogInv l) (hlost : l.lostCount = 0#8) :
    LogInv (logDropHead l) := by
  obtain ⟨hlen, hnum, -, -⟩ := h
  refine ⟨by simp [logDropHead]; omega, fun i hi => ?_, rfl, fun hne => absurd hlost hne⟩
  have hi' : i + 1 < l.records.length := by simp [logDropHead] at hi; omega
  have htail := hnum (i + 1) hi'
  simp only [logDropHead, List.getElem_tail, List.length_tail]
  rwa [show l.records.length - 1 - i = l.records.length - (i + 1) by omega]

/-- A take keeps the log coherent: it frees the place that a LOST record takes (09, R157). -/
theorem logTake_inv {l : EventLog} (own : Station) (h : LogInv l) : LogInv (logTake own l) := by
  by_cases hlost : l.lostCount = 0#8
  · simp only [logTake, hlost, if_true]
    exact logDropHead_inv h hlost
  · simp only [logTake, hlost, if_false]
    obtain ⟨hlen, hnum, hrpt, hfull⟩ := h
    have hcleared : LogInv (logDropHead { l with lostCount := 0#8 }) :=
      logDropHead_inv ⟨hlen, hnum, hrpt, fun hne => absurd rfl hne⟩ rfl
    have hroom : (logDropHead l).records.length < Config.logCapacity := by
      simp [logDropHead, hfull hlost, Config.logCapacity]
    have hput := logPut_inv hcleared (.lost own l.lostCount)
    have hsame : { logPut (logDropHead l) (.lost own l.lostCount) with lostCount := 0#8 }
        = logPut (logDropHead { l with lostCount := 0#8 }) (.lost own l.lostCount) := by
      have hroom' : (logDropHead { l with lostCount := 0#8 }).records.length < Config.logCapacity := hroom
      rw [logPut, logPut, if_pos hroom, if_pos hroom']
      rfl
    rw [hsame]
    exact hput

theorem resetLog_inv : LogInv resetLog := by
  refine ⟨by decide, fun i hi => absurd hi (Nat.not_lt_zero i), rfl, fun h => absurd rfl h⟩

/-- Each event of a running station keeps the log coherent. -/
theorem Change.logInv {s t : State} (hc : Change s t) (h : LogInv s.log) : LogInv t.log := by
  cases hc with
  | taken => exact logTake_inv _ h
  | converted slot n =>
    simp only [scanProceeds_keeps]
    exact ((slotConversion_log s slot n).trans (seedingReport_log _)).inv h
  | waited => rwa [show (beginScan s).log = s.log by simp]
  | ownHeard | peerHeard => exact (deliver_log s _ _).inv h
  | twinHeard | left => exact (enterStopped_log s _).inv h
  | attemptFailed => exact (failAttempt_log s _).inv h
  | arbitrationLost => simpa [loseArbitration] using h
  | contestEnded | holdEnded | intervalEnded | leaveAsked => simpa using h
  | abandonEnded => rwa [abandonExpires_log]
  | guardEnded => simpa using h
  | peerLost => exact (peerExpires_log s _).inv h
  | quietEnded => rw [changeCadence_log]; exact logPut_inv h _
  | joined => exact (enterSeeding_log (stopSetupHold s)).inv h
  | rejoined => exact (enterSeeding_log s).inv h
  | restarted => exact (enterSeeding_log _).inv h
  | listenEnded => rw [enterOnline_log]; exact logPut_inv h _
  | muteEnded => exact (enterListen_log s).inv h
  | reseeded => simpa [reseedChannel] using h
  | _ => exact h

/-- Settles O52: every event but a take only hands records to the log, and a take keeps it coherent. -/
theorem everyStepKeepsTheLogCoherent : Obligations.EveryStepKeepsTheLogCoherent := by
  intro s t h hstep
  obtain ⟨rest, hway⟩ := step_way hstep
  cases hway with
  | idled => rwa [show (idle _).log = s.log by simp]
  | reset | held => exact resetLog_inv
  | ticked | setupWritten => exact h
  | changed hc =>
    have ht := hc.logInv h
    exact ht

end Sys2Proof.Machine
end

section
/-! PROOF. What the commands leave alone, and the first statements about the machine: a step runs its front
command, a reset puts every block at its values, held in reset nothing acts, and the clock, the straps, the
setup block and the model's own inputs are kept (00; 08, R136 to R138; 09, R153). -/

namespace Sys2Proof.Machine

/-! ### A step, and the resets (08, R136) -/

/-- Settles O1: by the definition of a step. -/
theorem stepRunsFrontCommand : Obligations.StepRunsFrontCommand := by
  intro c rest s hpending
  simp only [step, hpending]

/-- The setup values of a channel by the default block (11, R179). -/
theorem channelSetupOf_default (c : Channel) : channelSetupOf defaultSetupBlock c = {
    enabled := true, group := Fin.ofNat 8 (c.val % 8), step := 3, touchThreshold := 40
    releaseThreshold := 30 } := by
  revert c
  decide

/-- The settings by the default block (11, R179). -/
theorem settingsOf_default : settingsOf defaultSetupBlock = {
    hysteresis := 6, touchDebounce := 3, liftDebounce := 3, driftPeriod := 32, briskWaitUs := 20000
    slackWaitUs := 200000, quietUs := 20000000, contestUs := 16000, holdUs := some 30000000
    refHost := none, hushLimit := 64 } := by
  decide

/-- Settles O3: each block of `State.resetWith` as the statement writes it out. -/
theorem fullResetPutsEveryBlockAtItsValues : Obligations.FullResetPutsEveryBlockAtItsValues := by
  intro straps s
  refine ⟨fullResetWith straps s, rfl, rfl, rfl, rfl, rfl, ?block, rfl, rfl, ?chans, ?tracker, ?entries, rfl,
    rfl, ?slots, rfl, rfl, ?roster, rfl, rfl, rfl⟩
  case block => intro n; simp [fullResetWith, State.resetWith, resetController, defaultSetupBlock]
  case chans =>
    intro c
    simp [fullResetWith, State.resetWith, offChan, channelSetupOf_default]
  case tracker => simp [fullResetWith, State.resetWith, resetTracker, settingsOf_default]
  case entries => intro g; simp [fullResetWith, State.resetWith, resetTable]
  case slots => intro g; simp [fullResetWith, State.resetWith, emptyQueue, emptySlot]
  case roster => intro p; simp [fullResetWith, State.resetWith, absentEntry]

/-- Settles O4: `holdInReset` has released the lines, and `exec_held` shuts out every command but the two of
the reset. -/
theorem heldInResetNothingActs : Obligations.HeldInResetNothingActs := by
  intro s
  exact ⟨holdInReset s, rfl, rfl, rfl, rfl, rfl, rfl, rfl, rfl, rfl, rfl, fun straps => rfl,
    fun c hfull hassert => exec_held rfl hfull hassert⟩

/-! ### What no command changes (08, R137, R138; 09, R153) -/

/-- The model's own inputs, the straps, the clock and the setup block as they were. -/
structure KeepsInputs (s t : State) : Prop where
  pending : t.pending = s.pending
  wire : t.wire = s.wire
  straps : t.ctrl.straps = s.ctrl.straps
  clock : t.log.clock = s.log.clock
  block : t.ctrl.block = s.ctrl.block

section
variable {s t u : State}

theorem KeepsInputs.refl (s : State) : KeepsInputs s s := ⟨rfl, rfl, rfl, rfl, rfl⟩

theorem KeepsInputs.trans (h : KeepsInputs s t) (h' : KeepsInputs t u) : KeepsInputs s u :=
  ⟨h'.pending.trans h.pending, h'.wire.trans h.wire, h'.straps.trans h.straps, h'.clock.trans h.clock,
    h'.block.trans h.block⟩

/-- An operation that keeps the station controller and only hands records to the log. -/
theorem KeepsInputs.of_ctrl (hpending : t.pending = s.pending) (hwire : t.wire = s.wire)
    (hctrl : t.ctrl = s.ctrl) (hlog : LogExtends s.log t.log) : KeepsInputs s t :=
  ⟨hpending, hwire, congrArg _ hctrl, hlog.clock, congrArg _ hctrl⟩

end

/-- A change of station state moves the controller's state and timers alone. -/
theorem setStation_straps_block (st : StationState) (s : State) :
    (setStation st s).ctrl.straps = s.ctrl.straps ∧ (setStation st s).ctrl.block = s.ctrl.block
      ∧ (setStation st s).ctrl.state = st := ⟨rfl, rfl, rfl⟩

section
variable (s : State)

theorem enterListen_keepsInputs : KeepsInputs s (enterListen s) := by
  refine ⟨by simp, by simp, ?_, (enterListen_log s).clock, ?_⟩ <;>
    (simp only [enterListen, logStation_keeps, setStation_straps_block]; split <;> rfl)

theorem seedingReport_keepsInputs : KeepsInputs s (seedingReport s) := by
  unfold seedingReport
  split
  · exact enterListen_keepsInputs s
  · exact .refl s

theorem enterSeeding_keepsInputs : KeepsInputs s (enterSeeding s) := by
  have hreport (u : State) : (seedingReport u).ctrl.straps = u.ctrl.straps
      ∧ (seedingReport u).ctrl.block = u.ctrl.block :=
    ⟨(seedingReport_keepsInputs u).straps, (seedingReport_keepsInputs u).block⟩
  refine ⟨by simp, by simp, ?_, (enterSeeding_log s).clock, ?_⟩ <;>
    simp [enterSeeding, hreport, setStation_straps_block]

theorem enterOnline_keepsInputs : KeepsInputs s (enterOnline s) := by
  refine ⟨by simp, by simp, ?_, by simp [enterOnline_log], ?_⟩ <;>
    simp [enterOnline, setStation_straps_block]

theorem enterMuted_keepsInputs : KeepsInputs s (enterMuted s) := by
  refine ⟨by simp, by simp, ?_, (enterMuted_log s).clock, ?_⟩ <;>
    simp [enterMuted, setStation_straps_block]

theorem enterStopped_keepsInputs (st : StationState) : KeepsInputs s (enterStopped st s) := by
  refine ⟨by simp, by simp, ?_, (enterStopped_log s st).clock, ?_⟩ <;>
    (simp only [enterStopped, logStation_keeps, setStation_straps_block]; split <;> simp)

theorem deliver_keepsInputs (f : Frame) (own : Option TxSlot) : KeepsInputs s (deliver f own s) := by
  cases own with
  | none =>
    refine .of_ctrl (by simp) (by simp) ?_ (deliver_log s f none)
    simp [deliver_none, heardBy]
  | some slot =>
    have hsucceeded : (succeededBy slot f s).ctrl = s.ctrl := by simp [succeededBy, heardBy]
    refine ⟨by simp, by simp, ?_, (deliver_log s f _).clock, ?_⟩ <;> rw [deliver_own] <;> split
    · rw [(enterStopped_keepsInputs _ _).straps, hsucceeded]
    · simp [hsucceeded]
    · rw [(enterStopped_keepsInputs _ _).block, hsucceeded]
    · simp [hsucceeded]

theorem failAttempt_keepsInputs (slot : TxSlot) : KeepsInputs s (failAttempt slot s) := by
  have hfailed : KeepsInputs s { s with queue := queueEnd slot s.queue, link := failLink s.link } :=
    ⟨rfl, rfl, rfl, rfl, rfl⟩
  unfold failAttempt
  dsimp only
  split
  · split
    · exact hfailed.trans (enterStopped_keepsInputs _ _)
    · exact hfailed.trans (enterMuted_keepsInputs _)
  · exact hfailed.trans (.of_ctrl (by simp) (by simp) (by simp) (.of_eq (by simp)))

end

/-- The station with its four counters and the failure run at 0 (08, R151). -/
def countersCleared (s : State) : State :=
  { s with
    table := { s.table with stray := 0#16, abandoned := 0#16 }
    link := { s.link with rxErrors := 0#16, txFailures := 0#16, consecutive := 0 } }

theorem restartStation_eq (s : State) : restartStation s = enterSeeding (countersCleared s) := rfl

/-- Every event of a running station keeps the inputs. -/
theorem Change.keepsInputs {s t : State} (hc : Change s t) : KeepsInputs s t := by
  cases hc with
  | taken => exact ⟨rfl, rfl, rfl, logTake_clock _ _, rfl⟩
  | converted slot n =>
    have hconverted : KeepsInputs s (slotConversion slot n s) :=
      .of_ctrl (by simp) (by simp) (by simp) (slotConversion_log s slot n)
    exact (hconverted.trans (seedingReport_keepsInputs _)).trans
      (.of_ctrl (by simp) (by simp) (by simp) (.of_eq (by simp)))
  | ownHeard | peerHeard => exact deliver_keepsInputs s _ _
  | twinHeard | left => exact enterStopped_keepsInputs s _
  | attemptFailed => exact failAttempt_keepsInputs s _
  | peerLost p =>
    refine .of_ctrl ?_ ?_ ?_ (peerExpires_log s p) <;> (unfold peerExpires; split <;> simp)
  | quietEnded => exact .of_ctrl (by simp) (by simp) (by simp) ⟨[_], changeCadence_log _ _⟩
  | joined =>
    have hstopped : KeepsInputs s (stopSetupHold s) := ⟨rfl, rfl, rfl, rfl, rfl⟩
    exact hstopped.trans (enterSeeding_keepsInputs _)
  | rejoined => exact enterSeeding_keepsInputs s
  | restarted =>
    have hcleared : KeepsInputs s (countersCleared s) := ⟨rfl, rfl, rfl, rfl, rfl⟩
    rw [restartStation_eq]
    exact hcleared.trans (enterSeeding_keepsInputs _)
  | listenEnded => exact enterOnline_keepsInputs s
  | muteEnded => exact enterListen_keepsInputs s
  | leaveAsked => exact ⟨by simp, by simp, by simp, by simp, by simp⟩
  | abandonEnded g =>
    refine .of_ctrl ?_ ?_ ?_ (.of_eq (abandonExpires_log s g)) <;> (unfold abandonExpires; split <;> simp)
  | arbitrationLost => constructor <;> simp [loseArbitration]
  | reseeded => constructor <;> simp [reseedChannel]
  | waited | contestEnded | guardEnded | holdEnded | intervalEnded => constructor <;> simp
  | nothing | discarded | turnedIdle | startBit | attemptStarted | setupRefused | recalQueued | cleared =>
    exact ⟨rfl, rfl, rfl, rfl, rfl⟩

theorem Changes.keepsInputs {s t : State} (h : Changes s t) : KeepsInputs s t := by
  obtain ⟨u, hc, port, rfl⟩ := h
  obtain ⟨hpending, hwire, hstraps, hclock, hblock⟩ := hc.keepsInputs
  exact ⟨hpending, hwire, hstraps, hclock, hblock⟩

/-- Settles O60: `KeepsInputs` for every event, and the tick and the setup window for themselves. -/
theorem clockStrapsSetupAndPendingAreKept : Obligations.ClockStrapsSetupAndPendingAreKept := by
  intro c s t h
  obtain rfl | ⟨rfl, -⟩ := exec_cases h
  swap
  · exact ⟨rfl, rfl, fun _ _ => ⟨rfl, fun _ => rfl, fun _ => rfl⟩⟩
  by_cases hc : isEvent c = true
  · obtain ⟨hpending, hwire, hstraps, hclock, hblock⟩ := (eventEffect_changes s hc).keepsInputs
    exact ⟨hpending, hwire, fun _ _ => ⟨hstraps, fun _ => hclock, fun _ => hblock⟩⟩
  cases c with
  | fullReset straps => exact ⟨rfl, rfl, fun h => absurd rfl (h straps)⟩
  | resetAsserted => exact ⟨rfl, rfl, fun _ h => absurd rfl h⟩
  | millisecondClockTick => exact ⟨rfl, rfl, fun _ _ => ⟨rfl, fun h => absurd rfl h, fun _ => rfl⟩⟩
  | setupWindowWrite v =>
    obtain ⟨hstate, hlock, block, port, heq⟩ | hchanges := eventEffect_setupWindowWrite v s
    · rw [heq]
      refine ⟨rfl, rfl, fun _ _ => ⟨rfl, fun _ => rfl, ?_⟩⟩
      rintro (hother | hclosed | hclosed)
      · exact absurd rfl (hother v)
      · exact absurd hstate hclosed
      · exact absurd hlock (by simp [hclosed])
    · obtain ⟨hpending, hwire, hstraps, hclock, hblock⟩ := hchanges.keepsInputs
      exact ⟨hpending, hwire, fun _ _ => ⟨hstraps, fun _ => hclock, fun _ => hblock⟩⟩
  | _ => exact absurd rfl hc

end Sys2Proof.Machine
end

section
/-! PROOF. HALTED is left only by a RESTART or a reset (08, R149): which commands can change the station state
of a halted station, by the state in which each acts. -/

namespace Sys2Proof.Machine

section
variable {s : State}

/-- A command taken in HALTED leaves HALTED only where it is a RESTART (08, R149; 10, R170). -/
theorem takeCommand_halted (h : s.ctrl.state = .halted) {code : Byte} (hcode : code ≠ 0x02#8) :
    (takeCommand code s).ctrl.state = .halted := by
  have hjoin : (takeJoin s).ctrl.state = .halted := by simp [takeJoin, h]
  have hleave : (takeLeave s).ctrl.state = .halted := by simp [takeLeave, h]
  have hreseed : (takeReseed s).ctrl.state = .halted := by
    unfold takeReseed
    (repeat' split) <;> simp [reseedChannel, h]
  have hrecal : (takePanelRecal s).ctrl.state = .halted := by simp [takePanelRecal, State.online, h]
  unfold takeCommand
  rw [if_neg hcode]
  split_ifs <;> assumption

theorem endTransaction_halted (h : s.ctrl.state = .halted) (hcommand : s.host.commandPending ≠ some 0x02#8)
    (how : BusEnd) : (endTransaction how s).ctrl.state = .halted := by
  unfold endTransaction
  split
  · exact h
  have hdrop (u : State) : (dropTransaction u).ctrl = u.ctrl := rfl
  have htaken : (if handsTake how s then { s with log := logTake s.number s.log } else s).ctrl.state
      = .halted := by
    split <;> exact h
  simp only [hdrop]
  split
  next code hhands =>
    have hcode : code ≠ 0x02#8 := by
      rintro rfl
      unfold handsCommand at hhands
      split at hhands
      · split at hhands
        · exact hcommand hhands
        · cases hhands
      · cases hhands
    exact takeCommand_halted htaken hcode
  next => exact htaken

theorem startTransaction_halted (h : s.ctrl.state = .halted)
    (hcommand : s.host.commandPending ≠ some 0x02#8) (b : Byte) :
    (startTransaction b s).ctrl.state = .halted := by
  have hended := endTransaction_halted h hcommand .repeatedStart
  unfold startTransaction
  dsimp only
  split <;> exact hended

/-- A conversion leaves a station that is not in SEEDING in its state (08, R143). -/
theorem completeConversion_state (n : Nat) (h : s.ctrl.state ≠ .seeding) :
    (completeConversion n s).ctrl = s.ctrl := by
  unfold completeConversion
  split
  next slot _ =>
    split
    · have hreport : seedingReport (slotConversion slot n s) = slotConversion slot n s := by
        simp [seedingReport, h]
      simp [hreport]
    · rfl
  next => rfl

end

/-- Settles O59: every other command's event presupposes another station state, a receiver that runs or an
attempt, or keeps the station controller. -/
theorem haltedIsLeftOnlyByRestartOrReset : Obligations.HaltedIsLeftOnlyByRestartOrReset := by
  intro c s t hstation _ hhalted hexec hleft
  obtain ⟨_, _, _, _, _, _, hattempt, _⟩ := hstation
  have hnone : s.link.attempt = none := by simpa [hhalted] using hattempt
  have hsetting : s.ctrl.state ≠ .setup := by simp [hhalted]
  obtain rfl | ⟨rfl, -⟩ := exec_cases hexec
  swap
  · exact absurd hhalted hleft
  cases c with
  | restart => exact .inl rfl
  | fullReset straps => exact .inr (.inl ⟨straps, rfl⟩)
  | resetAsserted => exact .inr (.inr (.inl rfl))
  | hostTransactionStart b =>
    refine .inr (.inr (.inr ⟨.inr ⟨b, rfl⟩, ?_⟩))
    by_contra hcommand
    exact hleft (startTransaction_halted hhalted hcommand b)
  | hostTransactionEnd how =>
    refine .inr (.inr (.inr ⟨.inl ⟨how, rfl⟩, ?_⟩))
    by_contra hcommand
    exact hleft (endTransaction_halted hhalted hcommand how)
  | conversionCompletion n =>
    exact absurd (by rw [eventEffect, completeConversion_state n (by simp [hhalted]), hhalted]) hleft
  | frameHeard => exact absurd (by simp [eventEffect, receiving, hhalted]) hleft
  | attemptFailure | lossOfArbitration => exact absurd (by simp [eventEffect, hnone, hhalted]) hleft
  | setupHoldTimerExpiry | listenTimerExpiry | muteTimerExpiry =>
    exact absurd (by simp [eventEffect, setupHoldExpires, listenExpires, muteExpires, hhalted]) hleft
  | join => exact absurd (by simp [eventEffect, takeJoin, hhalted]) hleft
  | leave => exact absurd (by simp [eventEffect, takeLeave, hhalted]) hleft
  | waitTimerExpiry | contestTimerExpiry | abandonTimerExpiry | guardTimerExpiry | holdTimerExpiry
  | pulseIntervalTimerExpiry | lastHeardTimerExpiry | quietTimerExpiry | attemptStart | lineIdle
  | startBitRead =>
    refine absurd ?_ hleft
    simp only [eventEffect, waitExpires, contestExpires, abandonExpires, guardExpires, holdExpires,
      intervalExpires, peerExpires, quietExpires, startAttempt, Machine.lineIdle, Machine.startBitRead]
    (repeat' split) <;> simp [startOn, hhalted]
  | reseed | panelRecal | clearCounters | unknownCommand | setupWindowWrite | cursorWrite
  | registerWrite =>
    refine absurd ?_ hleft
    simp only [eventEffect, takeReseed, reseedChannel, takePanelRecal, takeClearCounters, writeSetup,
      writeCursor, writeRegister]
    (repeat' split) <;> simp [hhalted, takeIndex, wroteByte]
  | recordWindowRead ack | eventWindowRead ack | valueLatchRead ack =>
    obtain ⟨⟨_, hrecord⟩, ⟨_, hevent⟩, ⟨_, hvalue⟩⟩ := read_hostOnly s ack
    exact absurd (by simp only [hrecord, hevent, hvalue, hhalted]) hleft
  | millisecondClockTick => exact absurd hhalted hleft
  | frameDiscarded bits =>
    refine absurd ?_ hleft
    simp only [eventEffect, discard]
    (repeat' split) <;> exact hhalted

end Sys2Proof.Machine
end

section
/-! PROOF. The changes of station state as equations for the whole state (08, R142 to R151), and the statements
that speak of them: a start, a stop, LEAVE, JOIN, RESTART and the setup hold. -/

namespace Sys2Proof.Machine

/-! ### HALTED and OFFLINE (08, R150) -/

/-- A record when scanning stops: an ARMING one returns to IDLE, and at the end of ONLINE a claim-side one
(02, R42; 04, R84). -/
def stoppedChan (online : Bool) (r : Chan) : Chan :=
  if r.state = .arming ∨ (online = true ∧ claimSide r.state = true) then toIdle r else r

theorem stopTracker_keysToIdle_chan (r : Chan) :
    (if (if claimSide r.state then toIdle r else r).state = .arming then
        toIdle (if claimSide r.state then toIdle r else r)
      else if claimSide r.state then toIdle r else r) = stoppedChan true r := by
  cases h : r.state <;> simp [stoppedChan, claimSide, toIdle, h]

/-- The controller's part of a change of station state (08, R147). -/
def controllerIn (st : StationState) (c : Controller) : Controller :=
  { c with
    state := st
    listenTimer := if st = .listen then some listenUs else none
    muteTimer := if st = .muted then some muteUs else none
    leavePending := false }

theorem setStation_eq (st : StationState) (s : State) :
    setStation st s = { s with ctrl := controllerIn st s.ctrl } := rfl

theorem clearTable_eq (s : State) : clearTable s = { s with
    table := { s.table with entries := Vector.replicate 8 .free }
    log := (keyUps s.isLocal .cleared s.table.entries).foldl logPut s.log } := rfl

/-- The change into HALTED or OFFLINE as an equation for the whole state. -/
theorem enterStopped_eq (st : StationState) (s : State) : enterStopped st s = { s with
    front := { s.front with phase := none, position := none, conversion := none, waitTimer := none }
    chans := each (fun _ r => stoppedChan s.online r) s.chans
    tracker := { s.tracker with hushed := false, settle := none }
    table := { s.table with entries := Vector.replicate 8 .free }
    queue := emptyQueue
    link := { s.link with line := .stopped, attempt := none, linkLow := false, consecutive := 0 }
    roster := Vector.replicate 16 absentEntry
    cad := { s.cad with quiet := .stopped }
    ctrl := controllerIn st s.ctrl
    log := (clearedEvents s st).foldl logPut s.log } := by
  have hchans : (if s.ctrl.state = .online then keysToIdle (clearRoster (emptyTheQueue (clearTable s)))
      else clearRoster (emptyTheQueue (clearTable s)))
        = { clearRoster (emptyTheQueue (clearTable s)) with
            chans := if s.ctrl.state = .online then
              each (fun _ r => if claimSide r.state then toIdle r else r) s.chans else s.chans } := by
    split <;> rfl
  have hstopped : each (fun _ r => if r.state = .arming then toIdle r else r)
      (if s.ctrl.state = .online then each (fun _ r => if claimSide r.state then toIdle r else r) s.chans
        else s.chans) = each (fun _ r => stoppedChan s.online r) s.chans := by
    split
    next h => simp only [each_each, stopTracker_keysToIdle_chan, State.online, h, decide_true]
    next h => simp [stoppedChan, State.online, h]
  rw [enterStopped, hchans]
  simp only [stopScanning, stopTracker, hstopped, stopReceiver, clearFailureRun, setStation_eq, logStation,
    State.put, clearRoster, emptyTheQueue, clearTable_eq, clearedEvents, List.foldl_append]
  rfl

/-! ### MUTED, LISTEN and ONLINE (08, R144 to R146) -/

theorem tableBusy_free : tableBusy (Vector.replicate 8 .free) = false := by decide

/-- The change into MUTED as an equation for the whole state. -/
theorem enterMuted_eq (s : State) : enterMuted s = { s with
    chans := each (fun _ r => if claimSide r.state then toIdle r else r) s.chans
    table := { s.table with entries := Vector.replicate 8 .free }
    queue := emptyQueue
    link := { s.link with consecutive := 0 }
    roster := s.roster.set s.number absentEntry
    cad := if s.cad.cadence = .brisk then { s.cad with quiet := .running s.tracker.settings.quietUs }
      else s.cad
    ctrl := controllerIn .muted s.ctrl
    log := (clearedEvents s .muted).foldl logPut s.log } := by
  simp only [enterMuted, reportTable_eq, logStation, State.put, setStation_eq, clearFailureRun, ownEntry,
    State.setRoster, keysToIdle, emptyTheQueue, clearTable_eq, clearedEvents, List.foldl_append, quietWith,
    tableBusy_free]
  rfl

/-- The change into LISTEN as an equation for the whole state. -/
theorem enterListen_eq (s : State) : enterListen s = { s with
    link := if s.ctrl.state = .seeding then { s.link with line := .seeking 0 } else s.link
    ctrl := controllerIn .listen s.ctrl
    log := logPut s.log (.station s.number .listen) } := by
  unfold enterListen
  split <;> rfl

/-- The station in ONLINE before its groups are evaluated (08, R145). -/
def onlineEntered (s : State) : State :=
  { s with
    queue := pulseRequest false { s.queue with intervalTimer := none }
    link := { s.link with consecutive := 0 }
    roster := s.roster.set s.number { present := true, lastHeard := none, announced := none }
    ctrl := controllerIn .online s.ctrl
    log := logPut s.log (.station s.number .online) }

theorem enterOnline_eq (s : State) : enterOnline s = evaluate (fun _ => true) (onlineEntered s) := rfl

/-! ### SEEDING (08, R142, R143) -/

theorem noneSeeding_iff (s : State) : noneSeeding s = true ↔ ∀ c : Channel, s.chans[c].state ≠ .seeding := by
  simp [noneSeeding]

/-- The tracker's report of the end of a seeding (02, R25; 08, R143). -/
theorem seedingReport_eq (u : State) : seedingReport u = leavesSeeding u := by
  unfold seedingReport leavesSeeding
  simp only [noneSeeding_iff]
  split
  next h => rw [enterListen_eq, if_pos h.1]; rfl
  next => rfl

/-- A scan phase begun, as an equation for the front end (01, R3). -/
theorem beginScan_front (s : State) : (beginScan s).front = match s.front.scanList with
    | [] => { s.front with
        phase := some .wait, position := none, conversion := none, waitTimer := some (waitUs s)
        cycle := s.front.cycle + 1#16 }
    | slot :: _ => { s.front with
        phase := some .scan, position := some slot, conversion := some (slot, conversionUs s slot)
        waitTimer := none } := by
  cases h : s.front.scanList <;> (simp only [beginScan, h]; rfl)

/-- A scan phase begun reaches the front end alone. -/
theorem beginScan_eq (s : State) : beginScan s = { s with front := (beginScan s).front } := by
  unfold beginScan
  dsimp only
  split <;> rfl

/-- The front end when scanning starts under a setup block: in SCAN on the first slot, or at once in the brisk
wait where there is none (01, R1, R3, R6; log 19). -/
def startedFront (b : SetupBlock) : FrontEnd :=
  match scanListFor b with
  | slot :: _ => {
      scanList := scanListFor b, phase := some .scan, position := some slot
      conversion := some (slot, (stepFor b slot + 1) * 400), waitTimer := none, cycle := 0#16 }
  | [] => {
      scanList := [], phase := some .wait, position := none, conversion := none
      waitTimer := some (settingsOf b).briskWaitUs, cycle := 1#16 }

/-- A channel of a setup block is scanned: it is enabled or the reference host (02, R41). -/
def isScanned (b : SetupBlock) (c : Channel) : Bool :=
  (channelSetupOf b c).enabled || decide ((settingsOf b).refHost = some c)

/-- The records when scanning starts under a setup block (02, R41). -/
def startedChans (b : SetupBlock) (chans : Vector Chan 16) : Vector Chan 16 :=
  each (fun c r => startedChan (isScanned b c) (channelSetupOf b c) r) chans

/-- The station in SEEDING, before the tracker's report. -/
def seedingEntered (s : State) : State :=
  { s with
    front := startedFront s.ctrl.block
    chans := startedChans s.ctrl.block s.chans
    tracker := { hushed := false, settle := none, settings := settingsOf s.ctrl.block }
    table := { s.table with entries := Vector.replicate 8 .free }
    queue := emptyQueue
    link := { s.link with line := .stopped, attempt := none, linkLow := false }
    roster := Vector.replicate 16 absentEntry
    cad := {
      cadence := .brisk, quiet := .running (settingsOf s.ctrl.block).quietUs, stirred := false
      taken := false }
    ctrl := controllerIn .seeding { s.ctrl with lockOpen := false, setupHold := none }
    log := (clearedEvents s .seeding ++ wakeEvents s).foldl logPut s.log }

section
variable {b : SetupBlock} {s : State}

theorem startedChan_setup (scanned : Bool) (setup : ChannelSetup) (r : Chan) :
    (startedChan scanned setup r).setup = setup := by
  cases scanned <;> rfl

/-- Every record scanned is fresh in SEEDING, and every other OFF (02, R41). -/
theorem startedChan_eq (scanned : Bool) (setup : ChannelSetup) (r : Chan) :
    startedChan scanned setup r = if scanned then seedingFresh setup r.count else offChan setup := rfl

theorem startedChans_get (b : SetupBlock) (chans : Vector Chan 16) (c : Channel) :
    (startedChans b chans)[c] =
      if isScanned b c then seedingFresh (channelSetupOf b c) chans[c].count
      else offChan (channelSetupOf b c) := by
  rw [startedChans, each_get, startedChan_eq]

theorem scanListOf_started {s : State} {b : SetupBlock} (hsettings : s.tracker.settings = settingsOf b)
    (hsetup : ∀ c : Channel, s.chans[c].setup = channelSetupOf b c) : scanListOf s = scanListFor b := by
  have hkey : s.isKey = fun c =>
      (channelSetupOf b c).enabled && decide ((settingsOf b).refHost ≠ some c) := by
    funext c
    rw [State.isKey, hsetup, hsettings]
  rw [scanListOf, scanListFor, hsettings, hkey]

theorem slotStep_started {s : State} {b : SetupBlock} (hsettings : s.tracker.settings = settingsOf b)
    (hsetup : ∀ c : Channel, s.chans[c].setup = channelSetupOf b c) (slot : Slot) :
    slotStep s slot = stepFor b slot := by
  cases slot with
  | channel c => rw [slotStep, hsetup, stepFor]
  | reference =>
    rw [slotStep, hsettings, stepFor]
    cases (settingsOf b).refHost with
    | none => rfl
    | some c => dsimp only; rw [hsetup]

/-- Scanning started under a setup block, as an equation for the front end. -/
theorem startScanning_front {s : State} {b : SetupBlock} (hsettings : s.tracker.settings = settingsOf b)
    (hsetup : ∀ c : Channel, s.chans[c].setup = channelSetupOf b c) (hbrisk : s.cad.cadence = .brisk) :
    (startScanning s).front = startedFront b := by
  have hlist := scanListOf_started hsettings hsetup
  rw [startScanning, beginScan_front]
  unfold startedFront
  cases h : scanListFor b with
  | nil => simp only [hlist, h, waitUs, hbrisk, hsettings]; rfl
  | cons slot rest =>
    have hus : conversionUs s slot = (stepFor b slot + 1) * 400 := by
      rw [conversionUs, slotStep_started hsettings hsetup]
      rfl
    simp only [hlist, h]
    rw [← hus]
    rfl

theorem startScanning_eq (s : State) : startScanning s = { s with front := (startScanning s).front } := by
  rw [startScanning, beginScan_eq]

/-- The station in SEEDING once the blocks that stop are cleared, before the tracker, cadence control and the
front end start. -/
def seedingCleared (s : State) : State :=
  { s with
    table := { s.table with entries := Vector.replicate 8 .free }
    queue := emptyQueue
    link := { s.link with line := .stopped, attempt := none, linkLow := false }
    roster := Vector.replicate 16 absentEntry
    ctrl := controllerIn .seeding { s.ctrl with lockOpen := false, setupHold := none }
    log := (keyUps s.isLocal .cleared s.table.entries).foldl logPut s.log }

/-- The tracker and cadence control started (02, R41; 07, R134). -/
def seedingStarted (s : State) : State :=
  { seedingCleared s with
    chans := startedChans s.ctrl.block s.chans
    tracker := { hushed := false, settle := none, settings := settingsOf s.ctrl.block }
    cad := {
      cadence := .brisk, quiet := .running (settingsOf s.ctrl.block).quietUs, stirred := false
      taken := false } }

theorem setStation_seedingCleared (s : State) :
    setStation .seeding { stopReceiver (emptyTheQueue (clearRoster (clearTable s))) with
      ctrl := { s.ctrl with lockOpen := false, setupHold := none } } = seedingCleared s := by
  rw [clearTable_eq]
  rfl

theorem startCadence_seedingCleared (s : State) :
    startCadence (startTracker (seedingCleared s)) = seedingStarted s := by
  simp only [startCadence, startTracker, seedingStarted, startedChans, isScanned]
  rfl

theorem enterSeeding_steps (s : State) : enterSeeding s = seedingReport
    (logCadenceStart s.cad.cadence (logStation .seeding (startScanning (seedingStarted s)))) := by
  rw [← startCadence_seedingCleared, ← setStation_seedingCleared]
  simp only [enterSeeding, State.stopReceiver_ctrl, State.emptyTheQueue_ctrl, State.clearRoster_ctrl,
    clearTable_keeps]

theorem startScanning_seedingStarted (s : State) :
    startScanning (seedingStarted s) = { seedingStarted s with front := startedFront s.ctrl.block } := by
  have hsetup (c : Channel) : (seedingStarted s).chans[c].setup = channelSetupOf s.ctrl.block c := by
    show (startedChans s.ctrl.block s.chans)[c].setup = _
    rw [startedChans, each_get, startedChan_setup]
  rw [startScanning_eq, startScanning_front (b := s.ctrl.block) rfl hsetup rfl]

theorem logStation_eq (st : StationState) (s : State) :
    logStation st s = { s with log := logPut s.log (.station s.number st) } := rfl

theorem logCadenceStart_eq (was : Cadence) (s : State) : logCadenceStart was s = { s with
    log := (if was = .slack then [Event.cadence s.number .brisk] else []).foldl logPut s.log } := by
  unfold logCadenceStart
  split <;> rfl

/-- The change into SEEDING as an equation for the whole state. -/
theorem enterSeeding_eq (s : State) : enterSeeding s = leavesSeeding (seedingEntered s) := by
  rw [enterSeeding_steps, seedingReport_eq, startScanning_seedingStarted, logStation_eq, logCadenceStart_eq]
  simp only [seedingEntered, seedingStarted, seedingCleared, clearedEvents, wakeEvents, List.foldl_append,
    List.foldl_cons, List.foldl_nil, State.number, controllerIn]

/-! ### A start and a stop as the statements say them (08, R142, R150) -/

theorem getElem_replicate_free (g : Group) : (Vector.replicate 8 Entry.free)[g] = .free := by simp

theorem getElem_replicate_absent (p : Station) : (Vector.replicate 16 absentEntry)[p] = absentEntry := by simp

/-- A stop keeps the lock, the setup hold, the straps and the block. -/
theorem stoppedFrom_enterStopped {st : StationState} (hlisten : st ≠ .listen) (hmuted : st ≠ .muted)
    (s : State) : StoppedFrom st s (enterStopped st s) := by
  have hctrl : controllerIn st s.ctrl = {
      state := st, straps := s.ctrl.straps, block := s.ctrl.block, lockOpen := s.ctrl.lockOpen
      setupHold := s.ctrl.setupHold, listenTimer := none, muteTimer := none, leavePending := false } := by
    rw [controllerIn, if_neg hlisten, if_neg hmuted]
  rw [enterStopped_eq]
  refine ⟨rfl, rfl, rfl, rfl, rfl, rfl, fun c => ?_, getElem_replicate_free, rfl, rfl, rfl, rfl,
    getElem_replicate_absent, rfl, rfl, hctrl, rfl⟩
  rw [each_get, stoppedChan]
  simp only [State.online, decide_eq_true_eq]
  rfl

/-- Nothing is scanned under a setup block exactly where the scan list is empty (01, R1). -/
theorem scanListFor_eq_nil_iff (b : SetupBlock) :
    scanListFor b = [] ↔ ∀ c : Channel, isScanned b c = false := by
  cases href : (settingsOf b).refHost with
  | none => simp [scanListFor, isScanned, href]
  | some c => 
    have hc : isScanned b c = true := by simp [isScanned, href]
    constructor
    · intro h
      simp [scanListFor, href] at h
    · intro h
      rw [h c] at hc
      cases hc

/-- After a start no record seeds exactly where the scan list is empty (log 19). -/
theorem seedingEntered_noneSeeding_iff (s : State) :
    (∀ c : Channel, (seedingEntered s).chans[c].state ≠ .seeding) ↔ scanListFor s.ctrl.block = [] := by
  rw [scanListFor_eq_nil_iff]
  refine forall_congr' fun c => ?_
  show (startedChans s.ctrl.block s.chans)[c].state ≠ .seeding ↔ _
  rw [startedChans_get]
  cases isScanned s.ctrl.block c <;> simp [seedingFresh, offChan]

/-- What a start leaves with a scan list that has entries. -/
theorem enterSeeding_of_cons {s : State} {slot : Slot} {rest : List Slot}
    (h : scanListFor s.ctrl.block = slot :: rest) : enterSeeding s = seedingEntered s := by
  have hseeds : ¬ ∀ c : Channel, (seedingEntered s).chans[c].state ≠ .seeding := by
    rw [seedingEntered_noneSeeding_iff, h]
    exact nofun
  rw [enterSeeding_eq, leavesSeeding, if_neg fun hc => hseeds hc.2]

/-- What a start leaves with an empty scan list: the station passes on to LISTEN at once (log 19). -/
theorem enterSeeding_of_nil {s : State} (h : scanListFor s.ctrl.block = []) :
    enterSeeding s = { seedingEntered s with
      ctrl := controllerIn .listen (seedingEntered s).ctrl
      link := { s.link with line := .seeking 0, attempt := none, linkLow := false }
      log := (clearedEvents s .seeding ++ wakeEvents s ++ [Event.station s.number .listen]).foldl logPut
        s.log } := by
  have hnone := (seedingEntered_noneSeeding_iff s).mpr h
  rw [enterSeeding_eq, leavesSeeding, if_pos ⟨rfl, hnone⟩, List.foldl_append]
  rfl

theorem startedFrom_enterSeeding (s : State) : StartedFrom s (enterSeeding s) := by
  have hchans (c : Channel) : (seedingEntered s).chans[c] =
      if (channelSetupOf s.ctrl.block c).enabled ∨ (settingsOf s.ctrl.block).refHost = some c then
        seedingFresh (channelSetupOf s.ctrl.block c) s.chans[c].count
      else offChan (channelSetupOf s.ctrl.block c) := by
    show (startedChans s.ctrl.block s.chans)[c] = _
    rw [startedChans_get]
    simp only [isScanned, Bool.or_eq_true, decide_eq_true_eq]
  cases h : scanListFor s.ctrl.block with
  | nil =>
    rw [enterSeeding_of_nil h]
    refine ⟨rfl, rfl, rfl, rfl, rfl, hchans, getElem_replicate_free, rfl, getElem_replicate_absent, rfl, rfl,
      rfl, ?_⟩
    simp only [h]
    exact ⟨by simp only [seedingEntered, startedFront, h], by trivial⟩
  | cons slot rest =>
    rw [enterSeeding_of_cons h]
    refine ⟨rfl, rfl, rfl, rfl, rfl, hchans, getElem_replicate_free, rfl, getElem_replicate_absent, rfl, rfl,
      rfl, ?_⟩
    simp only [h]
    exact ⟨by simp only [seedingEntered, startedFront, h], by trivial⟩

/-- A start keeps the two counters of the claim table and the three of the link. -/
theorem enterSeeding_counters (s : State) :
    (enterSeeding s).table.stray = s.table.stray ∧ (enterSeeding s).table.abandoned = s.table.abandoned
      ∧ (enterSeeding s).link.rxErrors = s.link.rxErrors
      ∧ (enterSeeding s).link.txFailures = s.link.txFailures
      ∧ (enterSeeding s).link.consecutive = s.link.consecutive := by
  cases h : scanListFor s.ctrl.block with
  | nil => rw [enterSeeding_of_nil h]; exact ⟨rfl, rfl, rfl, rfl, rfl⟩
  | cons => rw [enterSeeding_of_cons h]; exact ⟨rfl, rfl, rfl, rfl, rfl⟩

end

end Sys2Proof.Machine
end

section
/-! PROOF. JOIN, RESTART, LEAVE, the setup hold and a twin's frame (08, R139 to R151), from the equations for a
start and a stop. -/

namespace Sys2Proof.Machine

section
variable {s t : State}

/-- What a start leaves says nothing of the host port, the setup hold, the counters and the failure run. -/
theorem StartedFrom.of_stopSetupHold (h : StartedFrom (stopSetupHold s) t) : StartedFrom s t := h

theorem StartedFrom.of_countersCleared (h : StartedFrom (countersCleared s) t) : StartedFrom s t := h

theorem StartedFrom.host (h : StartedFrom s t) (port : HostPort) : StartedFrom s { t with host := port } := h

theorem StoppedFrom.host {st : StationState} (h : StoppedFrom st s t) (port : HostPort) :
    StoppedFrom st s { t with host := port } := h

end

/-- Settles O39, by the equation for a start. -/
theorem setupHoldExpiryValidatesTheBlock : Obligations.SetupHoldExpiryValidatesTheBlock := by
  intro s hreset hstate
  simp only [exec_running hreset, Host.Outcome.next.injEq, exists_eq_left', eventEffect]
  refine ⟨fun hhold hvalid => ?_, fun offset hhold hbad => ?_, fun rem hhold hrem => ?_⟩
  · have ht : setupHoldExpires s = enterSeeding (stopSetupHold s) := by
      simp only [setupHoldExpires, hstate, hhold, and_self, if_true, tryJoin, hvalid]
    obtain ⟨hstray, habandoned, -⟩ := enterSeeding_counters (stopSetupHold s)
    rw [ht]
    exact ⟨(startedFrom_enterSeeding _).of_stopSetupHold, by simp [stopSetupHold], hstray, habandoned⟩
  · have ht : setupHoldExpires s = setupInvalid offset (stopSetupHold s) := by
      simp only [setupHoldExpires, hstate, hhold, and_self, if_true, tryJoin, hbad]
    rw [ht]
    rfl
  · have hne : ¬ (s.ctrl.state = .setup ∧ s.ctrl.setupHold = some 0) := by simp [hhold]; omega
    rw [setupHoldExpires, if_neg hne]

/-- Settles O42, by the equation for a start. -/
theorem joinStartsOrIsRefused : Obligations.JoinStartsOrIsRefused := by
  intro s hreset
  simp only [exec_running hreset, Host.Outcome.next.injEq, exists_eq_left', eventEffect]
  refine ⟨?_, fun offset hstate hbad => ?_, fun hsetup hoffline => ?_⟩
  · rintro (⟨hstate, hvalid⟩ | hstate)
    · have ht : takeJoin s = setResult .done (enterSeeding (stopSetupHold s)) := by
        simp only [takeJoin, hstate, hvalid, tryJoin]
      obtain ⟨hstray, habandoned, hrx, htx, -⟩ := enterSeeding_counters (stopSetupHold s)
      rw [ht]
      exact ⟨((startedFrom_enterSeeding _).of_stopSetupHold).host _, hstray, habandoned, hrx, htx,
        by simp [setResult, stopSetupHold]⟩
    · have ht : takeJoin s = setResult .done (enterSeeding s) := by simp only [takeJoin, hstate]
      obtain ⟨hstray, habandoned, hrx, htx, -⟩ := enterSeeding_counters s
      rw [ht]
      exact ⟨(startedFrom_enterSeeding s).host _, hstray, habandoned, hrx, htx, by simp [setResult]⟩
  · have ht : takeJoin s = setupInvalid offset (stopSetupHold s) := by
      simp only [takeJoin, hstate, hbad, tryJoin]
    rw [ht]
    rfl
  · unfold takeJoin
    split
    next h => exact absurd h hsetup
    next h => exact absurd h hoffline
    next => rfl

/-- Settles O43, by the equation for a start with the counters at 0. -/
theorem restartStartsWithCountersCleared : Obligations.RestartStartsWithCountersCleared := by
  intro s hreset
  simp only [exec_running hreset, Host.Outcome.next.injEq, exists_eq_left', eventEffect]
  refine ⟨fun hstate => ?_, fun hstate => by rw [takeRestart, if_pos hstate]; rfl⟩
  rw [takeRestart, if_neg hstate, restartStation_eq]
  obtain ⟨hstray, habandoned, hrx, htx, hrun⟩ := enterSeeding_counters (countersCleared s)
  exact ⟨((startedFrom_enterSeeding _).of_countersCleared).host _, hstray, habandoned, hrx, htx, hrun,
    by simp [setResult, countersCleared]⟩

/-- A PULSE request in ONLINE, as an equation for the whole state (06, R113). -/
theorem requestPulse_false_eq (s : State) : s.requestPulse false = { s with
    queue := if s.ctrl.state = .online then { s.queue with
        pulse := true
        renewal := s.queue.renewal || (s.queue.pulse && decide (s.queue.inFlight = some .pulse)) }
      else s.queue } := by
  simp only [State.requestPulse, State.online, decide_eq_true_eq]
  split
  · rw [pulseRequest_false]
  · rfl

/-- Settles O46, by the equation for a stop. -/
theorem leaveGoesOfflineOrWaits : Obligations.LeaveGoesOfflineOrWaits := by
  intro s hreset
  simp only [exec_running hreset, Host.Outcome.next.injEq, exists_eq_left', eventEffect]
  have hstop (h : takeLeave s = setResult .done (enterStopped .offline s)) :
      StoppedFrom .offline s (takeLeave s) ∧ (takeLeave s).host = { s.host with result := .done } := by
    rw [h]
    exact ⟨(stoppedFrom_enterStopped (by decide) (by decide) s).host _, by simp [setResult]⟩
  refine ⟨fun hstate hpending => ?_, fun hstate hpending => ?_, ?_, ?_⟩
  · simp only [takeLeave, hstate, hpending, Bool.false_eq_true, if_false, requestPulse_false_eq, if_true,
      setResult]
  · simp only [takeLeave, hstate, hpending, if_true, setResult]
  · rintro (h | h | h) <;> exact hstop (by simp only [takeLeave, h])
  · rintro (h | h | h) <;> simp only [takeLeave, h, setResult]

/-- Settles O20, by the equation for a stop. -/
theorem twinFrameHaltsTheStation : Obligations.TwinFrameHaltsTheStation := by
  intro s f hrec hown
  obtain ⟨hreset, hrecv, hnone, hwf, bits, hline, hprefix⟩ := hrec
  simp only [exec_running hreset, Host.Outcome.next.injEq, exists_eq_left', eventEffect]
  have ht : hear f s = enterStopped .halted s := by simp only [hear, hnone, hline, hprefix, hown, if_true]
  rw [if_pos ⟨hwf, hrecv⟩, ht]
  refine ⟨stoppedFrom_enterStopped (by decide) (by decide) s, by simp, ?_, ?_⟩ <;> rw [enterStopped_eq]

end Sys2Proof.Machine
end

section
/-! PROOF. The line's own events, the timers that ask for one frame, the tick and the commands that change one
field (01, R4; 03, R51; 04, R81; 05, R87, R90; 06, R114; 07, R131; 09, R153; 10, R164, R170, R175). -/

namespace Sys2Proof.Machine

/-! ### The scan and the line (01, 05) -/

/-- Settles O6, by the equation for the front end at the start of a scan phase. -/
theorem waitExpiryBeginsAScanPhase : Obligations.WaitExpiryBeginsAScanPhase := by
  intro s hreset
  simp only [exec_running hreset, Host.Outcome.next.injEq, eventEffect]
  refine ⟨fun slot rest hwait hlist => ?_, fun hwait hlist => ?_, fun rem hwait hrem => ?_⟩
  · simp only [waitExpires, hwait, beginScan, hlist]
    rfl
  · simp only [waitExpires, hwait, beginScan, hlist, endScan, waitUs]
      <;> rfl
  · obtain ⟨n, rfl⟩ := Nat.exists_eq_succ_of_ne_zero hrem.ne'
    simp only [waitExpires, hwait]

/-- The saturating counter as the statements write it (03, R65; 05, R102). -/
theorem satInc_eq (n : Word) : satInc n = if n = 0xFFFF#16 then 0xFFFF#16 else n + 1#16 := by
  unfold satInc
  split
  next h => exact h
  next => rfl

/-- A kind that names none of the five condemns the frame at its fourth bit (05, R88, R90). -/
theorem judge_unknownKind {x y : Bool} (h : x = true ∨ y = true) : judge [false, true, x, y] = .discarded 0 := by
  obtain rfl | rfl := h
  · cases y <;> rfl
  · cases x <;> rfl

/-- Settles O26. -/
theorem discardCountsOneReceiveError : Obligations.DiscardCountsOneReceiveError := by
  intro s bits read run hreset hnone hline hprefix
  simp only [exec_running hreset, Host.Outcome.next.injEq, eventEffect]
  have hdiscard (run : Nat) (h : judge bits = .discarded run) : discard bits s = { s with
      link := { s.link with line := .seeking run, rxErrors := satInc s.link.rxErrors } } := by
    simp only [discard, hline, hnone, h, hprefix, if_true]
  simp only [← satInc_eq]
  exact ⟨hdiscard run, fun x y h hbits => hdiscard 0 (hbits ▸ judge_unknownKind h)⟩

/-- Settles O30. -/
theorem lineTurnsIdleAndTakesAStartBit : Obligations.LineTurnsIdleAndTakesAStartBit := by
  intro s hreset
  simp only [exec_running hreset, Host.Outcome.next.injEq, eventEffect]
  refine ⟨fun run hline hrun => ?_, fun run hline hrun => ?_, fun hline hnone => ?_, fun a hline hatt hbit => ?_⟩
  · simp only [lineIdle, hline, hrun, if_true]
  · simp only [lineIdle, hline, Nat.not_le.mpr hrun, if_false]
  · simp only [startBitRead, hline, if_true, linkReads, hnone, lineReads, Bool.false_eq_true, if_false]
  · have hfirst : sentDominant a.frame 1 = true := rfl
    have hlong : 1 < (frameBits a.frame).length := by simp [frameBits]
    have harb : ¬ arbitrationEnd a.frame < 2 := by cases a.frame <;> simp [arbitrationEnd]
    have hread : linkReads false s.link = driveNext a { s.link with line := .receiving [false] } := by
      simp [linkReads, hatt, attemptReads, hbit, hfirst, hlong]
    simp only [startBitRead, hline, if_true, hread, driveNext, hbit, harb, if_false]
    rfl

/-! ### Timers that ask for one frame (03, 04, 06, 07) -/

theorem groupInFlight_iff (q : TxQueue) (g : Group) :
    groupInFlight q g = true ↔ q.inFlight = some (.group g) := decide_eq_true_iff

/-- A CONFIRM request takes an empty slot (06, R109). -/
theorem confirmRequest_empty {g : Group} {q : TxQueue} (c : Channel) (h : q.groups[g].frame = none) :
    confirmRequest g c q
      = setSlot q g { frame := some (.confirm c), followUp := q.groups[g].followUp } := by
  simp only [confirmRequest, h]

/-- A CONFIRM request takes the place of a queued CLAIM, not of one in flight (06, R109). -/
theorem confirmRequest_claim {g : Group} {q : TxQueue} (c : Channel) {d : Channel}
    (h : q.groups[g].frame = some (.claim d)) : confirmRequest g c q =
      if q.inFlight = some (.group g) then q
      else setSlot q g { frame := some (.confirm c), followUp := q.groups[g].followUp } := by
  simp only [confirmRequest, h, groupInFlight_iff]

/-- A CONFIRM request leaves a CONFIRM or a RELEASE (06, R109). -/
theorem confirmRequest_stands {g : Group} {q : TxQueue} (c : Channel) {f : GroupFrame}
    (h : q.groups[g].frame = some f) (hclaim : ∀ d, f ≠ .claim d) : confirmRequest g c q = q := by
  cases f with
  | claim d => exact absurd rfl (hclaim d)
  | confirm | release => simp only [confirmRequest, h]

/-- Settles O31. -/
theorem contestExpiryRequestsTheConfirm : Obligations.ContestExpiryRequestsTheConfirm := by
  intro s g h st abandon hreset
  simp only [exec_running hreset, Host.Outcome.next.injEq, exists_eq_left', eventEffect]
  refine ⟨fun he => ?_, fun rem he hrem => ?_⟩
  · simp only [contestExpires, he, State.requestConfirm, State.online, decide_eq_true_eq]
    split
    next honline =>
      refine ⟨rfl, ?_⟩
      have honline' : s.ctrl.state = .online := honline
      show confirmRequest g h.channel s.queue = _
      rw [if_pos honline']
      rcases hf : s.queue.groups[g].frame with _ | (d | d | ⟨d, reason⟩)
      · exact confirmRequest_empty _ hf
      · exact confirmRequest_claim _ hf
      · exact confirmRequest_stands _ hf nofun
      · exact confirmRequest_stands _ hf nofun
    next hoffline =>
      have hoffline' : s.ctrl.state ≠ .online := hoffline
      exact ⟨rfl, by rw [if_neg hoffline']; rfl⟩
  · obtain ⟨n, rfl⟩ := Nat.exists_eq_succ_of_ne_zero hrem.ne'
    simp only [contestExpires, he]

/-- Settles O34: where the slot is empty and not in flight the RELEASE takes it. -/
theorem holdExpirySeedsAndReleasesStuck : Obligations.HoldExpirySeedsAndReleasesStuck := by
  intro s c hreset hstate
  simp only [exec_running hreset, Host.Outcome.next.injEq, exists_eq_left', eventEffect]
  refine ⟨fun hhold => ?_, fun rem hhold hrem => ?_⟩
  · have ht : holdExpires c s = (s.requestRelease s.chans[c].setup.group c .stuck).setChan c
        (toSeeding s.chans[c]) := by
      rw [holdExpires, if_pos ⟨hstate, hhold⟩, leaveClaimSide, hstate]
      rfl
    rw [ht]
    refine ⟨?_, fun honline hempty hfly => ?_, fun hoffline => ?_⟩
    · unfold State.requestRelease
      split <;> rfl
    · have hslot : releaseRequest s.chans[c].setup.group c .stuck s.queue
          = setSlot s.queue s.chans[c].setup.group { frame := some (.release c .stuck), followUp := none } := by
        simp only [releaseRequest, groupInFlight, hfly, hempty, emptySlot, decide_false, Bool.false_and,
          Option.isSome_none, Bool.or_self, Bool.false_eq_true, if_false]
      rw [← hslot]
      simp only [State.requestRelease, State.online, honline, decide_true, if_true, State.setChan]
    · simp [State.requestRelease, State.online, hoffline, State.setChan]
  · rw [holdExpires, if_neg]
    rintro ⟨-, h⟩
    rw [hhold] at h
    exact absurd (Option.some.inj h) hrem.ne'

/-- Settles O35. -/
theorem intervalExpiryRequestsAPulse : Obligations.IntervalExpiryRequestsAPulse := by
  intro s hreset
  simp only [exec_running hreset, Host.Outcome.next.injEq, eventEffect]
  refine ⟨fun htimer => ?_, fun rem htimer hrem => ?_⟩
  · simp only [intervalExpires, htimer, State.requestPulse, State.online, decide_eq_true_eq]
    by_cases honline : s.ctrl.state = .online <;> cases s.queue.pulse <;>
      simp [honline, pulseRequest]
  · obtain ⟨n, rfl⟩ := Nat.exists_eq_succ_of_ne_zero hrem.ne'
    simp only [intervalExpires, htimer]

/-- Settles O37, by the equation for a PULSE request. -/
theorem quietExpiryTurnsSlack : Obligations.QuietExpiryTurnsSlack := by
  intro s hreset
  simp only [exec_running hreset, Host.Outcome.next.injEq, eventEffect]
  refine ⟨fun hquiet => ?_, fun rem hquiet hrem => ?_, fun hquiet => ?_⟩
  · simp only [quietExpires, hquiet, changeCadence, requestPulse_false_eq]
    rfl
  · obtain ⟨n, rfl⟩ := Nat.exists_eq_succ_of_ne_zero hrem.ne'
    simp only [quietExpires, hquiet]
  · simp only [quietExpires, hquiet]

/-- The 16-bit clock wraps from 65535 to 0 (09, R153). -/
theorem word_succ_eq (n : Word) : n + 1#16 = BitVec.ofNat 16 ((n.toNat + 1) % 65536) := by
  apply BitVec.eq_of_toNat_eq
  simp

/-- The tick as an equation for the whole state (09, R153). -/
theorem tickMillisecond_eq (s : State) : tickMillisecond s = { s with
    sinceTick := 0
    front := { s.front with
      conversion := s.front.conversion.map fun p => (p.1, p.2 - (1000 - s.sinceTick))
      waitTimer := s.front.waitTimer.map (· - (1000 - s.sinceTick)) }
    chans := each (fun _ r => { r with holdTimer := r.holdTimer.map (· - (1000 - s.sinceTick)) }) s.chans
    table := { s.table with entries := each (fun _ e => entryRunDown (1000 - s.sinceTick) e) s.table.entries }
    queue := { s.queue with intervalTimer := s.queue.intervalTimer.map (· - (1000 - s.sinceTick)) }
    roster := each (fun _ e => { e with lastHeard := e.lastHeard.map (· - (1000 - s.sinceTick)) }) s.roster
    cad := { s.cad with quiet := quietRunDown (1000 - s.sinceTick) s.cad.quiet }
    ctrl := { s.ctrl with
      setupHold := s.ctrl.setupHold.map (· - (1000 - s.sinceTick))
      listenTimer := s.ctrl.listenTimer.map (· - (1000 - s.sinceTick))
      muteTimer := s.ctrl.muteTimer.map (· - (1000 - s.sinceTick)) }
    log := { s.log with clock := s.log.clock + 1#16 } } := rfl

/-- Settles O38, by the equation for the tick. -/
theorem tickAdvancesTheClock : Obligations.TickAdvancesTheClock := by
  intro s hreset
  simp only [exec_running hreset, Host.Outcome.next.injEq, exists_eq_left', eventEffect, tickMillisecond_eq,
    word_succ_eq, each_get, and_self, true_and, implies_true, and_true]
  refine ⟨fun g => ?_, ?_⟩
  · cases s.table.entries[g] <;> rfl
  · cases s.cad.quiet <;> rfl

/-! ### Commands and bytes that change one field (06, 10) -/

/-- Settles O45. -/
theorem recalClearAndUnknownCommands : Obligations.RecalClearAndUnknownCommands := by
  intro s hreset
  simp only [exec_running hreset, Host.Outcome.next.injEq, eventEffect]
  refine ⟨?_, rfl, fun code hcode => ?_⟩
  · simp only [takePanelRecal, State.online, decide_eq_true_eq, setResult]
    split
    · by_cases hrecal : s.queue.recal = true
      · have hsame : { s.queue with recal := true } = s.queue := by rw [← hrecal]
        simp only [hrecal, if_true, hsame]
      · simp only [hrecal, if_false, Bool.false_eq_true]
    · rfl
  · have hnone : isCommand code = false := by
      obtain rfl | h := hcode
      · rfl
      · simp [isCommand]; omega
    simp [hnone, setResult]

end Sys2Proof.Machine
end

section
/-! PROOF. The host port: transactions, the bytes written and the bytes read (10; 11, R181 to R184). -/

namespace Sys2Proof.Machine

/-! ### Transactions (10, R163, R166) -/

theorem endTransaction_none (how : BusEnd) {s : State} (h : s.host.transaction = none) :
    endTransaction how s = s := by
  simp only [endTransaction, h]

theorem endTransaction_transaction (how : BusEnd) (s : State) :
    (endTransaction how s).host.transaction = none := by
  unfold endTransaction
  split
  next h => exact h
  next => rfl

/-- With no transaction in progress a start of the port's address begins one (10, R163). -/
theorem startTransaction_none {b : Byte} {s : State} (h : s.host.transaction = none) :
    startTransaction b s = { s with host :=
      if b.toNat / 2 = 0x4C + s.ctrl.straps.address.val then { s.host with
        transaction := some {
          direction := if b.toNat % 2 = 1 then .read else .write, indexDue := decide (b.toNat % 2 = 0)
          nacked := false, readLast := false }
        sda := .acknowledged }
      else { s.host with sda := .released } } := by
  have hdue : decide (directionOf b = .write) = decide (b.toNat % 2 = 0) := by
    rw [decide_eq_decide, directionOf]
    split <;> simp <;> omega
  rw [startTransaction, endTransaction_none _ h, hdue]
  dsimp only [portAddress, directionOf]
  by_cases haddress : b.toNat / 2 = 0x4C + s.ctrl.straps.address.val
  · simp only [haddress, if_true]
  · simp only [haddress, if_false]

/-- No event of a running station holds it in reset. -/
theorem Change.inReset {s t : State} (h : Change s t) : t.inReset = s.inReset := by
  have hended (slot : TxSlot) : (failAttempt slot s).inReset = s.inReset := by
    unfold failAttempt
    dsimp only
    split_ifs <;> simp
  have hheard (f : Frame) (own : Option TxSlot) : (deliver f own s).inReset = s.inReset := by simp
  have habandoned (g : Group) : (abandonExpires g s).inReset = s.inReset := by
    unfold abandonExpires
    split <;> simp
  have hlost (p : Station) : (peerExpires p s).inReset = s.inReset := by
    unfold peerExpires
    split <;> simp
  cases h with
  | attemptFailed a => exact hended a.slot
  | ownHeard a => exact hheard a.frame _
  | peerHeard f => exact hheard f none
  | abandonEnded g => exact habandoned g
  | peerLost p => exact hlost p
  | nothing | taken | discarded | turnedIdle | startBit | attemptStarted | setupRefused | recalQueued | cleared => rfl
  | joined =>
    have hstarted (u : State) : (enterSeeding u).inReset = u.inReset := by simp
    exact hstarted (stopSetupHold s)
  | arbitrationLost a bit => simp [loseArbitration]
  | reseeded c => simp [reseedChannel]
  | _ => simp

/-- Settles O47. -/
theorem startBeginsATransaction : Obligations.StartBeginsATransaction := by
  intro s b hreset
  refine ⟨fun hnone haddress => ?_, fun hnone haddress => ?_, fun u _ hu => ?_⟩
  · rw [exec_running hreset, eventEffect, startTransaction_none hnone, if_pos haddress]
  · rw [exec_running hreset, eventEffect, startTransaction_none hnone, if_neg haddress]
  · rw [exec_running hreset] at hu
    obtain rfl := Host.Outcome.next.inj hu
    have hrunning : (endTransaction .repeatedStart s).inReset = false := by
      obtain ⟨u, hchange, port, heq⟩ := endTransaction_changes s .repeatedStart
      rw [heq, ← hreset, ← hchange.inReset]
    have hnone := endTransaction_transaction .repeatedStart s
    refine ⟨hnone, ?_⟩
    rw [exec_running (s := eventEffect (.hostTransactionEnd .repeatedStart) s) hrunning, exec_running hreset]
    simp only [eventEffect, startTransaction, endTransaction_none _ hnone]

theorem endTransaction_read {how : BusEnd} {s : State} {tr : Transaction}
    (htr : s.host.transaction = some tr) (hread : tr.direction = .read) :
    endTransaction how s = dropTransaction
      (if handsTake how s then { s with log := logTake s.number s.log } else s) := by
  simp only [endTransaction, htr, handsCommand, hread, reduceCtorEq, if_false]

/-- A WRITE hands no take on (10, R168). -/
theorem handsTake_write (how : BusEnd) {s : State} {tr : Transaction}
    (htr : s.host.transaction = some tr) (hwrite : tr.direction = .write) : handsTake how s = false := by
  unfold handsTake
  rw [htr]
  split
  next tr' r heq _ =>
    obtain rfl := Option.some.inj heq
    simp [hwrite]
  next => rfl

theorem endTransaction_write {how : BusEnd} {s : State} {tr : Transaction}
    (htr : s.host.transaction = some tr) (hwrite : tr.direction = .write)
    (hnone : s.host.commandPending = none) : endTransaction how s = dropTransaction s := by
  simp only [endTransaction, htr, handsCommand, hwrite, if_true, handsTake_write how htr hwrite, hnone,
    Bool.false_eq_true, if_false]

theorem endTransaction_command {how : BusEnd} {s : State} {tr : Transaction} {code : Byte}
    (htr : s.host.transaction = some tr) (hwrite : tr.direction = .write)
    (hcode : s.host.commandPending = some code) :
    endTransaction how s = dropTransaction (takeCommand code s) := by
  simp only [endTransaction, htr, handsCommand, hwrite, if_true, handsTake_write how htr hwrite, hcode,
    Bool.false_eq_true, if_false]

/-- A READ hands a take on where it read 27H, ended with a stop and snapped a record (10, R168). -/
theorem handsTake_read {how : BusEnd} {s : State} {tr : Transaction}
    (htr : s.host.transaction = some tr) (hread : tr.direction = .read) :
    handsTake how s = true ↔
      (∃ r, s.host.eventSnapshot = some (.record r)) ∧ tr.readLast = true ∧ how = .stop := by
  unfold handsTake
  rw [htr]
  rcases s.host.eventSnapshot with _ | _ | r <;> simp [hread]

/-- Every command byte is taken as the command it names, and any other as an unknown one (10, R170; 11,
R181). -/
theorem takeCommand_eq {code : Byte} {command : Instr} {s : State}
    (h : (code, command) ∈ [(0x01#8, Instr.join), (0x02#8, .restart), (0x03#8, .reseed),
        (0x04#8, .panelRecal), (0x05#8, .leave), (0x06#8, .clearCounters)]
      ∨ ((code = 0x00#8 ∨ 7 ≤ code.toNat) ∧ command = .unknownCommand code)) :
    takeCommand code s = eventEffect command s := by
  obtain h | ⟨hcode, rfl⟩ := h
  · simp only [List.mem_cons, Prod.mk.injEq, List.not_mem_nil, or_false] at h
    rcases h with ⟨rfl, rfl⟩ | ⟨rfl, rfl⟩ | ⟨rfl, rfl⟩ | ⟨rfl, rfl⟩ | ⟨rfl, rfl⟩ | ⟨rfl, rfl⟩ <;> rfl
  · have hnone : isCommand code = false := by
      obtain rfl | h := hcode
      · rfl
      · simp [isCommand]; omega
    have hne (n : Byte) (hn : isCommand n = true) : code ≠ n := by
      rintro rfl
      rw [hn] at hnone
      cases hnone
    rw [takeCommand, if_neg (hne _ rfl), if_neg (hne _ rfl), if_neg (hne _ rfl), if_neg (hne _ rfl),
      if_neg (hne _ rfl), if_neg (hne _ rfl)]
    simp only [eventEffect, hnone, Bool.false_eq_true, if_false]

/-- Settles O48. -/
theorem transactionEndTakesOrHandsOn : Obligations.TransactionEndTakesOrHandsOn := by
  intro s how tr hreset htr
  simp only [exec_running hreset, Host.Outcome.next.injEq]
  refine ⟨fun hread hstop hlast hsnap => ?_, fun hread hnot => ?_, fun hwrite hnone => ?_,
    fun code command u hcode hwrite hpending hu => ?_⟩
  · have htake : handsTake how s = true := (handsTake_read htr hread).mpr ⟨hsnap, hlast, hstop⟩
    rw [eventEffect, endTransaction_read htr hread, if_pos htake]
    rfl
  · have htake : ¬ handsTake how s = true := by
      rw [handsTake_read htr hread]
      rintro ⟨⟨r, hsnap⟩, hlast, hstop⟩
      simp [hsnap, hlast, hstop] at hnot
    rw [eventEffect, endTransaction_read htr hread, if_neg htake]
    rfl
  · rw [eventEffect, endTransaction_write htr hwrite hnone]
    rfl
  · rw [eventEffect, endTransaction_command htr hwrite hpending, takeCommand_eq hcode, hu]
    rfl

/-! ### Bytes written (10, R164, R173, R174) -/

/-- Settles O49, index by index. -/
theorem writtenBytesActAtTheirIndex : Obligations.WrittenBytesActAtTheirIndex := by
  intro s v tr hreset htr hwrite
  simp only [exec_running hreset, Host.Outcome.next.injEq, eventEffect]
  have hdue (hd : tr.indexDue = true) : indexDue s = true := by simp [indexDue, htr, hwrite, hd]
  have hnotDue (hd : tr.indexDue = false) : indexDue s = false := by simp [indexDue, htr, hd]
  have hwriting (hd : tr.indexDue = false) : writing s = true := by simp [writing, htr, hwrite, hd]
  have hregister (hd : tr.indexDue = false) (hsetup : inSetupWindow s.host.index = false)
      (hcursor : isCursorIndex s.host.index = false) :
      (if indexDue s = true then takeIndex v s
        else if writing s = true ∧ inSetupWindow s.host.index = false ∧ isCursorIndex s.host.index = false then
          wroteByte (writeRegister v s)
        else s) = wroteByte (writeRegister v s) := by
    simp [hnotDue hd, hwriting hd, hsetup, hcursor]
  have hcursor (hd : tr.indexDue = false) (hi : isCursorIndex s.host.index = true) :
      (if writing s = true ∧ isCursorIndex s.host.index = true then wroteByte (writeCursor v s) else s)
        = wroteByte (writeCursor v s) := if_pos ⟨hwriting hd, hi⟩
  have hsetup (hd : tr.indexDue = false) (hi : 0x40 ≤ s.host.index.toNat) :
      (if writing s = true ∧ inSetupWindow s.host.index = true then wroteByte (writeSetup v s) else s)
        = wroteByte (writeSetup v s) := if_pos ⟨hwriting hd, decide_eq_true hi⟩
  refine ⟨fun hd => ?_, fun hd hi hstate hlock => ?_, fun hd hi hlocked => ?_, fun hd hi => ?_, fun hd hi => ?_,
    fun hd hi => ?_, fun hd hi => ?_, fun hd hi => ?_⟩
  · rw [if_pos (hdue hd), takeIndex, htr]
    rfl
  · have hplace : Fin.ofNat 64 s.host.index.toNat = Fin.ofNat 64 (s.host.index.toNat - 0x40) := by
      apply Fin.ext
      simp only [Fin.ofNat]
      omega
    have hblock := congrArg (fun k : Fin 64 => s.ctrl.block.set k v) hplace
    rw [hsetup hd hi, writeSetup, if_pos ⟨hstate, hlock⟩, ← hblock]
    rfl
  · rw [hsetup hd hi, writeSetup, if_neg (by rintro ⟨h, h'⟩; simp [h, h'] at hlocked)]
    rfl
  · rw [hcursor hd (by rw [hi]; rfl), writeCursor, if_pos hi, wroteByte, hi]
    rfl
  · rw [hcursor hd (by rw [hi]; rfl), writeCursor, if_neg (by rw [hi]; decide), wroteByte, hi]
    rfl
  · rw [hregister hd (by rw [hi]; rfl) (by rw [hi]; rfl), writeRegister, if_pos hi, wroteByte, hi]
    rfl
  · rw [hregister hd (by rw [hi]; rfl) (by rw [hi]; rfl), writeRegister, if_neg (by rw [hi]; decide), if_pos hi,
      wroteByte, hi]
    rfl
  · have hne (n : BitVec 7) (hn : 1 ≤ n.toNat ∧ n.toNat ≤ 4) : s.host.index ≠ n := by
      intro h
      rw [h] at hi
      obtain hi | hi := hi
      · simp [hi] at hn
      · omega
    have hsmall : inSetupWindow s.host.index = false := by
      obtain hi | hi := hi
      · rw [hi]; rfl
      · exact decide_eq_false (by omega)
    rw [hregister hd hsmall (by simp [isCursorIndex, hne]), writeRegister, if_neg (hne _ (by decide)),
      if_neg (hne _ (by decide))]
    rfl

end Sys2Proof.Machine
end

section
/-! PROOF. The bytes the host reads: the windows as the layouts of R183 and 11.6 give them, the latched values
and the live registers (10, R165 to R169, R175; 11, R181 to R184). -/

namespace Sys2Proof.Machine

/-! ### Fields (11, R182) -/

theorem lowByte_mod (n : Nat) : BitVec.ofNat 8 (n % 256) = lowByte n := by
  apply BitVec.eq_of_toNat_eq
  simp [lowByte]

theorem wordField_eq (n : Option Nat) : wordField n = (twoBytes n).map (BitVec.ofNat 8) := by
  cases n with
  | none => rfl
  | some n => simp [wordField, twoBytes, lowByte_mod, highByte]

theorem wordBytes_eq (w : Word) : wordBytes w = (twoBytes (some w.toNat)).map (BitVec.ofNat 8) := by
  simp [wordBytes, twoBytes, lowByte_mod, highByte]

theorem signedField_eq (d : Option Int) : signedField d = (signedBytes d).map (BitVec.ofNat 8) := by
  cases d with
  | none => rfl
  | some d => rw [signedField, wordBytes_eq, BitVec.toNat_ofInt]; rfl

theorem byteField_eq (n : Option Nat) : byteField n = BitVec.ofNat 8 (n.getD 0xFF) := by
  cases n <;> rfl

theorem twoBytes_length (n : Option Nat) : (twoBytes n).length = 2 := by cases n <;> rfl

theorem signedBytes_length (d : Option Int) : (signedBytes d).length = 2 := by cases d <;> rfl

/-- A window shows the bytes of its layout, and 00H in what the layout leaves unused. -/
theorem windowOf_toList {bytes : List Byte} {k : Nat} (h : bytes.length + k = 16) :
    (windowOf bytes).toList = bytes ++ List.replicate k 0#8 := by
  apply List.ext_getElem
  · simp [h]
  · intro i hi _
    simp only [windowOf, Vector.getElem_toList, Vector.getElem_ofFn, List.getElem_append]
    split
    next hlt => simp [hlt]
    next hge => simp [hge]

/-! ### The record window (11, R183) -/

theorem shownGroup_eq (s : State) (c : Channel) : shownGroup s c = setupAt s.ctrl.block c.val / 8 % 8 := by
  rw [shownGroup, groupField]
  omega

theorem channelWindow_toList (s : State) (c : Channel) :
    (channelWindow s c).toList = (channelLayout s c).map (BitVec.ofNat 8) := by
  rw [channelWindow, windowOf_toList (k := 0), channelLayout]
  · rw [shownGroup_eq, wordField_eq, wordField_eq, wordField_eq, signedField_eq, signedField_eq,
      wordField_eq, byteField_eq]
    cases s.chans[c].state <;> cases s.chans[c].seed <;>
      cases decide (s.tracker.settings.refHost = some c) <;> simp [lowByte, chanCode]
  · simp [wordField_eq, signedField_eq, twoBytes_length, signedBytes_length]
    split <;> simp [twoBytes_length, signedBytes_length]

theorem groupWindow_toList (s : State) (g : Group) :
    (groupWindow s g).toList = (groupLayout s g).map (BitVec.ofNat 8) := by
  rw [groupWindow, windowOf_toList (k := 6), groupLayout]
  · simp only [wordField_eq, byteField_eq]
    cases s.table.entries[g] with
    | free => rfl
    | contested h held abandon contest => cases contest <;> rfl
    | owned h held since => rfl
    | guarded remaining => rfl
  · simp [wordField_eq, twoBytes_length]

theorem pairBytes_eq (a : Option Announced) :
    pairBytes ((a.map Announced.holdings).getD []) = (List.range 8).map fun i => BitVec.ofNat 8
      (((a.bind fun a => a.holdings[i]?).map fun pair => 16 * pair.1.val + pair.2.val).getD 0xFF) := by
  rw [pairBytes]
  refine List.map_congr_left fun i _ => ?_
  cases a with
  | none => rfl
  | some a =>
    show (match a.holdings[i]? with | some p => _ | none => _) = _
    cases h : a.holdings[i]? <;> simp [h, lowByte]

theorem rosterWindow_toList (s : State) (p : Station) :
    (rosterWindow s p).toList = (rosterLayout s p).map (BitVec.ofNat 8) := by
  rw [rosterWindow, windowOf_toList (k := 2), rosterLayout]
  · have hpresent (b : Bool) : b.toNat = if b then 1 else 0 := by cases b <;> rfl
    simp only [wordField_eq, byteField_eq, pairBytes_eq, hpresent]
    cases s.roster[p].announced with
    | none => simp [lowByte, msUs]
    | some a =>
      obtain ⟨cadence, hushed, stirred, holdings⟩ := a
      cases cadence <;> simp [lowByte, msUs, announcedByte, cadenceCode, hpresent, Function.comp_def]
  · simp [wordField_eq, twoBytes_length, pairBytes]

/-- The window of the record that the cursor selects is its layout, byte by byte. -/
theorem cursorWindow_toList (s : State) :
    (cursorWindow s).toList = (recordLayout s).map (BitVec.ofNat 8) := by
  have hkind (n : Byte) : s.host.cursorKind = n ↔ s.host.cursorKind.toNat = n.toNat := BitVec.toNat_inj.symm
  have hindex16 {i : Nat} (h : i < 16) : (⟨i, h⟩ : Fin 16) = Fin.ofNat 16 i := Fin.ext (Nat.mod_eq_of_lt h).symm
  have hindex8 {i : Nat} (h : i < 8) : (⟨i, h⟩ : Fin 8) = Fin.ofNat 8 i := Fin.ext (Nat.mod_eq_of_lt h).symm
  have h0 : (0#8 : Byte).toNat = 0 := rfl
  have h1 : (1#8 : Byte).toNat = 1 := rfl
  have h2 : (2#8 : Byte).toNat = 2 := rfl
  unfold cursorWindow recordLayout
  simp only [hkind, h0, h1, h2]
  by_cases hchan : s.host.cursorKind.toNat = 0 ∧ s.host.cursorIndex.toNat < 16
  · rw [dif_pos hchan, if_pos hchan, channelWindow_toList, hindex16 hchan.2]
  rw [dif_neg hchan, if_neg hchan]
  by_cases hgroup : s.host.cursorKind.toNat = 1 ∧ s.host.cursorIndex.toNat < 8
  · rw [dif_pos hgroup, if_pos hgroup, groupWindow_toList, hindex8 hgroup.2]
  rw [dif_neg hgroup, if_neg hgroup]
  by_cases hroster : s.host.cursorKind.toNat = 2 ∧ s.host.cursorIndex.toNat < 16
  · rw [dif_pos hroster, if_pos hroster, rosterWindow_toList, hindex16 hroster.2]
  rw [dif_neg hroster, if_neg hroster]
  rfl

/-! ### The event window (11, 11.6) -/

theorem recordBytes_eq (r : Record) : recordBytes r = (eventLayout (.record r)).map (BitVec.ofNat 8) := by
  have hfields : eventFields r.event
      = (kindCode r.event, eventStation r.event, eventChannel r.event, eventGroup r.event,
        eventValue r.event) := by
    cases r.event with
    | keyDown h g held origin => cases origin <;>
      simp [eventFields, kindCode, eventStation, eventChannel, eventGroup, eventValue]
    | keyUp h g reason => cases reason <;> rfl
    | cadence own cadence => cases cadence <;> rfl
    | station own st => cases st <;> rfl
    | _ => rfl
  rw [recordBytes, eventLayout, wordBytes_eq, wordField_eq, byteField_eq, byteField_eq, hfields]
  simp [lowByte]

theorem eventLayout_length (snap : EventSnapshot) : (eventLayout snap).length = 8 := by
  cases snap with
  | empty => rfl
  | record r => simp [eventLayout, twoBytes_length]

/-- Every byte of the event window is that of the layout. -/
theorem eventByte_eq (snap : EventSnapshot) {n : Nat} (h : n < 8) :
    (eventLayout snap)[n]?.map (BitVec.ofNat 8) = some (eventByte snap n) := by
  cases snap with
  | empty => interval_cases n <;> rfl
  | record r =>
    have hlt : n < (eventLayout (.record r)).length := by rw [eventLayout_length]; exact h
    simp [eventByte, recordBytes_eq, hlt]

/-! ### A byte read (10, R165, R167 to R169, R175) -/

/-- A byte sent, as an equation for the whole state (10, R165). -/
theorem sentByte_eq {port : HostPort} {tr : Transaction} (htr : port.transaction = some tr) (s : State)
    (v : Byte) (ack : Bool) : sentByte v ack { s with host := port } = { s with host := { port with
      sda := if ack then .sending else .released, byteSent := some v, index := port.index + 1#7
      transaction := some { tr with
        nacked := !ack, readLast := tr.readLast || decide (port.index = 0x27#7) } } } := by
  simp only [sentByte, htr, Option.map_some]

/-- The status byte by its four fields (10, R175; 11, R181). -/
theorem statusByte_eq (s : State) : statusByte s = BitVec.ofNat 8 (32 * stationByte s.ctrl.state
    + (if s.cad.cadence = .slack then 16 else 0) + (if s.tracker.hushed then 8 else 0)
    + (if s.ctrl.leavePending then 4 else 0)) := by
  have hstation : stationCode s.ctrl.state = stationByte s.ctrl.state := by cases s.ctrl.state <;> rfl
  rw [statusByte, lowByte, hstation]
  cases s.cad.cadence <;> cases s.tracker.hushed <;> cases s.ctrl.leavePending <;> rfl

/-- From 2AH on a byte read is the setup block's, or 00H below its window (10, R175). -/
theorem readValue_live {s : State} {ack : Bool} (h : 0x2A ≤ s.host.index.toNat) : readValue ack s =
    sentByte (if 0x40 ≤ s.host.index.toNat then s.ctrl.block[s.host.index.toNat - 0x40]?.getD 0x00#8
      else 0x00#8) ack s := by
  unfold readValue
  iterate 12 rw [if_neg (by omega)]
  split <;> rfl

/-- Settles O50. -/
theorem readBytesComeFromTheirCopies : Obligations.ReadBytesComeFromTheirCopies := by
  intro s ack tr hreset htr hread
  dsimp only
  simp only [exec_running hreset, Host.Outcome.next.injEq, eventEffect]
  have hsending : sending s = !tr.nacked := by simp [sending, htr, hread]
  refine ⟨fun hnacked => ?_, fun hacked snap hlow hhigh hsnap => ?_, fun hacked snap hlow hhigh hsnap => ?_,
    fun hacked w kept hvalue => ?_, fun hacked v hvalue => ?_⟩
  · simp [hsending, hnacked]
  · have hsnapped : recordSnap s = snap := by
      obtain hsome | ⟨hnone, hlayout⟩ := hsnap
      · simp [recordSnap, hsome]
      · rw [recordSnap, hnone, Option.getD_none]
        exact Vector.toList_inj.mp ((cursorWindow_toList s).trans hlayout.symm)
    have hin : inRecordWindow s.host.index = true := by simp [inRecordWindow, hlow, hhigh]
    rw [if_pos ⟨by simp [hsending, hacked], hin⟩, readRecord, hsnapped]
    exact sentByte_eq (port := { s.host with recordSnapshot := some snap }) htr s _ ack
  · have hsnapped : eventSnap s = snap := by
      obtain hsome | ⟨hnone, hhead⟩ := hsnap
      · simp [eventSnap, hsome]
      · rw [eventSnap, hnone, Option.getD_none, headSnapshot]
        cases hrecords : s.log.records <;> rw [hrecords] at hhead <;> exact hhead.symm
    have hin : inEventWindow s.host.index = true := by simp [inEventWindow, hlow, hhigh]
    refine ⟨eventByte snap (s.host.index.toNat - 0x20), eventByte_eq snap (by omega), ?_⟩
    rw [if_pos ⟨by simp [hsending, hacked], hin⟩, readEvent, hsnapped]
    exact sentByte_eq (port := { s.host with eventSnapshot := some snap }) htr s _ ack
  · have houtside : inRecordWindow s.host.index = false ∧ inEventWindow s.host.index = false := by
      simp only [inRecordWindow, inEventWindow]
      constructor <;> simp <;> omega
    rw [if_pos ⟨by simp [hsending, hacked], houtside⟩]
    refine Eq.trans ?_ (sentByte_eq (port := { s.host with latches := kept }) htr s _ ack)
    rcases hvalue with ⟨hi, rfl, rfl⟩ | ⟨hi, rfl, rfl⟩ | ⟨hi, rfl, rfl⟩ | ⟨hi, rfl, rfl⟩ | ⟨hi, rfl, rfl⟩
      | ⟨hi, rfl, rfl⟩ <;> rcases hi with hi | hi <;> simp [readValue, latchByte, hi, highByte, lowByte]
  · have houtside : inRecordWindow s.host.index = false ∧ inEventWindow s.host.index = false := by
      simp only [inRecordWindow, inEventWindow]
      constructor <;> simp <;> omega
    rw [if_pos ⟨by simp [hsending, hacked], houtside⟩]
    refine Eq.trans ?_ (sentByte_eq (port := s.host) htr s _ ack)
    rcases hvalue with ⟨hi, rfl⟩ | ⟨hi, rfl⟩ | ⟨hi, rfl⟩ | ⟨hi, rfl⟩ | ⟨hi, rfl⟩ | ⟨hi, rfl⟩ | ⟨hlow, hhigh, rfl⟩
      | ⟨hlow, hbyte⟩
    · simp [readValue, hi, statusByte_eq]
    · simp only [readValue, hi]
      cases s.host.result <;> rfl
    · simp [readValue, hi]
    · simp [readValue, hi]
    · simp [readValue, hi]
    · simp [readValue, hi, lowByte]
    · rw [readValue_live hlow, if_neg (by omega)]
    · rw [readValue_live (by omega), if_pos hlow, hbyte]
      rfl

end Sys2Proof.Machine
end

section
/-! PROOF. The evaluation of a group (04, R71 to R73): the choice is the strongest eligible candidate, and the
operation as `GroupEvaluated` gives it; the expiries that call for one (03, R53, R55; 07, R123; 08, R144). -/

namespace Sys2Proof.Machine

/-! ### The choice (04, R72, R73) -/

section
variable {s : State} {g : Group} {c d : Channel}

theorem online_iff (s : State) : s.online = true ↔ s.ctrl.state = .online := decide_eq_true_iff

theorem evaluated_eq_isJudged (s : State) (g : Group) (c : Channel) : evaluated s g c = isJudged s g c := by
  simp only [evaluated, isJudged, claimInFlight, groupInFlight, Bool.decide_and, decide_not, Bool.and_assoc]

theorem suppresses_eq_isBeaten (e : Entry) (r : Chan) : suppresses e (strengthOf r) = isBeaten e r.delta := by
  rw [strengthOf_eq_clipped]
  cases e <;> cases r.delta <;> rfl

/-- The strength by which the choice compares: 0 without a delta (04, R73). -/
def strengthKey (s : State) (c : Channel) : Nat := (strengthOf s.chans[c]).getD 0

/-- A candidate is eligible with the strength by which the choice compares. -/
theorem eligibleWith_eq_some_iff {n : Nat} :
    eligibleWith s g c = some n ↔ c ∈ eligible s g ∧ strengthKey s c = n := by
  rw [eligible, List.mem_filter, evaluated_eq_isJudged, eligibleWith, strengthKey, strengthOf_eq_clipped]
  by_cases hjudged : isJudged s g c = true
  · cases s.table.entries[g] <;> cases s.chans[c].delta <;>
      simp [hjudged, admitsClaim, List.mem_finRange]
  · simp [hjudged]

theorem eligible_pairwise (s : State) (g : Group) : (eligible s g).Pairwise (· < ·) :=
  (List.pairwise_lt_finRange 16).filter _

/-- `c` is the first of `l` with the greatest strength. -/
def IsFirstMax (s : State) (l : List Channel) (c : Channel) : Prop :=
  c ∈ l ∧ ∀ d ∈ l, strengthKey s d < strengthKey s c ∨ (strengthKey s d = strengthKey s c ∧ c ≤ d)

theorem stronger_some (s : State) (b d : Channel) :
    stronger s (some b) d = if strengthKey s b < strengthKey s d then some d else some b := rfl

/-- The stronger of two, along an ascending list, is the first of the strongest (04, R73). -/
theorem foldl_stronger (s : State) (l : List Channel) (b : Channel) (hl : (b :: l).Pairwise (· < ·)) :
    ∃ c, l.foldl (stronger s) (some b) = some c ∧ IsFirstMax s (b :: l) c := by
  induction l generalizing b with
  | nil => exact ⟨b, rfl, by simp, by simp⟩
  | cons d l ih =>
    simp only [List.pairwise_cons, List.mem_cons, forall_eq_or_imp] at hl
    obtain ⟨⟨hbd, hb⟩, hd, hl⟩ := hl
    rw [List.foldl_cons, stronger_some]
    by_cases hlt : strengthKey s b < strengthKey s d
    · obtain ⟨c, hc, hmem, hmax⟩ := ih d (List.pairwise_cons.mpr ⟨hd, hl⟩)
      refine ⟨c, by rw [if_pos hlt, hc], List.mem_cons_of_mem _ hmem, fun e he => ?_⟩
      obtain rfl | he := List.mem_cons.mp he
      · have hmaxd := hmax d List.mem_cons_self
        omega
      · exact hmax e he
    · obtain ⟨c, hc, hmem, hmax⟩ := ih b (List.pairwise_cons.mpr ⟨hb, hl⟩)
      have hmaxb := hmax b List.mem_cons_self
      refine ⟨c, by rw [if_neg hlt, hc], ?_, fun e he => ?_⟩
      · obtain rfl | h := List.mem_cons.mp hmem
        · exact List.mem_cons_self
        · exact List.mem_cons_of_mem _ (List.mem_cons_of_mem _ h)
      · simp only [List.mem_cons] at he
        obtain rfl | rfl | he := he
        · exact hmaxb
        · obtain h | ⟨h, hcb⟩ := hmaxb
          · exact .inl (by omega)
          · obtain h' | h' := (Nat.not_lt.mp hlt).lt_or_eq
            · exact .inl (by omega)
            · exact .inr ⟨by omega, hcb.trans hbd.le⟩
        · exact hmax e (List.mem_cons_of_mem _ he)

/-- The choice of a group with an eligible candidate is the first of the strongest. -/
theorem choice_of_eligible (h : c ∈ eligible s g) :
    ∃ b, choice s g = some b ∧ IsFirstMax s (eligible s g) b := by
  have hl := eligible_pairwise s g
  rw [choice]
  cases heq : eligible s g with
  | nil => rw [heq] at h; cases h
  | cons d l =>
    rw [heq] at hl
    exact foldl_stronger s l d hl

/-- The first of the strongest eligible candidates is the choice as the statements say it (04, R73). -/
theorem isChoice_iff : IsChoice s g c ↔ IsFirstMax s (eligible s g) c := by
  constructor
  · rintro ⟨best, hbest, hmax⟩
    obtain ⟨hmem, rfl⟩ := eligibleWith_eq_some_iff.mp hbest
    exact ⟨hmem, fun d hd => hmax d _ (eligibleWith_eq_some_iff.mpr ⟨hd, rfl⟩)⟩
  · rintro ⟨hmem, hmax⟩
    refine ⟨_, eligibleWith_eq_some_iff.mpr ⟨hmem, rfl⟩, fun d n hd => ?_⟩
    obtain ⟨hdmem, rfl⟩ := eligibleWith_eq_some_iff.mp hd
    exact hmax d hdmem

theorem choice_of_isChoice (h : IsChoice s g c) : choice s g = some c := by
  obtain ⟨hmem, hmax⟩ := isChoice_iff.mp h
  obtain ⟨b, hb, hbmem, hbmax⟩ := choice_of_eligible hmem
  have hbc := hmax b hbmem
  have hcb := hbmax c hmem
  have heq : b = c := by
    obtain h | ⟨h, hle⟩ := hbc <;> obtain h' | ⟨h', hle'⟩ := hcb
    · omega
    · omega
    · omega
    · exact le_antisymm hle' hle
  rw [hb, heq]

theorem eligible_eq_nil (h : ∀ c, eligibleWith s g c = none) : eligible s g = [] := by
  refine List.eq_nil_iff_forall_not_mem.mpr fun c hc => ?_
  have hsome := eligibleWith_eq_some_iff.mpr ⟨hc, rfl⟩
  rw [h c] at hsome
  cases hsome

theorem choice_eq_none (h : ∀ c, eligibleWith s g c = none) : choice s g = none := by
  rw [choice, eligible_eq_nil h]
  rfl

theorem isChoice_of_choice (h : choice s g = some c) : IsChoice s g c := by
  cases heq : eligible s g with
  | nil =>
    rw [choice, heq] at h
    cases h
  | cons d l =>
    obtain ⟨b, hb, hmax⟩ := choice_of_eligible (s := s) (g := g) (c := d) (by rw [heq]; exact List.mem_cons_self)
    obtain rfl : b = c := Option.some.inj (hb.symm.trans h)
    exact isChoice_iff.mpr hmax

/-! ### The evaluation as the statements say it (04, R72, R73; 06, R108) -/

theorem claimRequest_followUp (flying : Bool) (c : Channel) (sl : GroupSlot) :
    (claimRequest flying c sl).followUp = sl.followUp := by
  unfold claimRequest
  split
  · rfl
  · split <;> rfl
  · rfl

theorem evaluatedSlot_followUp (s : State) (g : Group) :
    (evaluatedSlot s g).followUp = s.queue.groups[g].followUp := by
  unfold evaluatedSlot
  dsimp only
  split
  · split <;> rfl
  · rw [claimRequest_followUp]
    split <;> rfl

theorem evaluatedSlot_empty (h : s.queue.groups[g].frame = none) :
    (evaluatedSlot s g).frame = (choice s g).map .claim := by
  have hkept : claimWithdrawn s g = false := by simp only [claimWithdrawn, h]
  simp only [evaluatedSlot, hkept, Bool.false_eq_true, if_false]
  cases choice s g with
  | none => exact h
  | some c => simp only [claimRequest, h, Option.map_some]

theorem standing_eq_guarded_iff (e : Entry) : standing e = .guarded ↔ ∃ rem, e = .guarded rem := by
  cases e <;> simp [standing]

/-- A queued CLAIM is withdrawn in GUARD and where its own channel is beaten (04, R72). -/
theorem claimWithdrawn_queued {b : Channel} (h : s.queue.groups[g].frame = some (.claim b))
    (hfly : s.queue.inFlight ≠ some (.group g)) : claimWithdrawn s g = true ↔
      standing s.table.entries[g] = .guarded
        ∨ (isJudged s g b ∧ isBeaten s.table.entries[g] s.chans[b].delta) := by
  simp only [claimWithdrawn, h, groupInFlight, hfly, decide_false, Bool.not_false, Bool.true_and,
    evaluated_eq_isJudged, suppresses_eq_isBeaten, Bool.or_eq_true, Bool.and_eq_true, standing_eq_guarded_iff]
  refine or_congr_left ?_
  cases s.table.entries[g] <;> simp

theorem claimWithdrawn_flying (hfly : s.queue.inFlight = some (.group g)) : claimWithdrawn s g = false := by
  unfold claimWithdrawn
  split <;> simp [groupInFlight, hfly]

/-- A queued CLAIM names the choice, or where there is none stays unless it is withdrawn (04, R72; 06, R108). -/
theorem evaluatedSlot_queued {b : Channel} (h : s.queue.groups[g].frame = some (.claim b))
    (hfly : s.queue.inFlight ≠ some (.group g)) : (evaluatedSlot s g).frame =
      if (choice s g).isSome then (choice s g).map .claim
      else if claimWithdrawn s g then none else some (.claim b) := by
  have hflying : groupInFlight s.queue g = false := decide_eq_false hfly
  unfold evaluatedSlot
  dsimp only
  cases choice s g with
  | none => cases claimWithdrawn s g <;> simp only [if_true, if_false, Bool.false_eq_true, Option.isSome_none, h]
  | some c =>
    cases claimWithdrawn s g <;>
      simp only [if_true, if_false, Bool.false_eq_true, Option.isSome_some, Option.map_some, claimRequest, h,
        hflying]

/-- A CLAIM in flight, a CONFIRM and a RELEASE stay (06, R108). -/
theorem evaluatedSlot_stands {f : GroupFrame} (h : s.queue.groups[g].frame = some f)
    (hstands : s.queue.inFlight = some (.group g) ∨ ∀ b, f ≠ .claim b) :
    (evaluatedSlot s g).frame = some f := by
  have hkept : claimWithdrawn s g = false := by
    obtain hfly | hclaim := hstands
    · exact claimWithdrawn_flying hfly
    · cases f with
      | claim b => exact absurd rfl (hclaim b)
      | confirm | release => simp only [claimWithdrawn, h]
  unfold evaluatedSlot
  simp only [hkept, Bool.false_eq_true, if_false]
  cases choice s g with
  | none => exact h
  | some c =>
    cases f with
    | confirm | release => simp only [claimRequest, h]
    | claim b =>
      have hflying : groupInFlight s.queue g = true := by
        obtain hfly | hclaim := hstands
        · exact decide_eq_true hfly
        · exact absurd rfl (hclaim b)
      simp only [claimRequest, h, hflying, if_true]

theorem evaluatedChan_eq (s : State) (c : Channel) : evaluatedChan s c s.chans[c] =
    if isJudged s s.chans[c].setup.group c
        ∧ isBeaten s.table.entries[s.chans[c].setup.group] s.chans[c].delta then
      { s.chans[c] with state := .suppressed, holdTimer := none }
    else s.chans[c] := by
  simp only [evaluatedChan, evaluated_eq_isJudged, suppresses_eq_isBeaten, Bool.and_eq_true]
  rfl

variable {which : Group → Bool}

/-- An evaluation in ONLINE as an equation for the whole state. -/
theorem evaluate_online (which : Group → Bool) (h : s.ctrl.state = .online) : evaluate which s = { s with
    chans := each (fun c r => if which r.setup.group then evaluatedChan s c r else r) s.chans
    queue := { s.queue with
      groups := each (fun g sl => if which g then evaluatedSlot s g else sl) s.queue.groups } } := by
  rw [evaluate, if_pos ((online_iff s).mpr h)]

/-- Each group evaluated in ONLINE is evaluated as the statements say it (04, R72, R73). -/
theorem groupEvaluated_evaluate (h : s.ctrl.state = .online) (hg : which g = true) :
    GroupEvaluated s (evaluate which s) g := by
  have hslot : (evaluate which s).queue.groups[g] = evaluatedSlot s g := by
    rw [evaluate_online which h]
    exact (each_get _ _ g).trans (if_pos hg)
  refine ⟨fun c hc => ?_, by rw [hslot, evaluatedSlot_followUp], ?_⟩
  · rw [evaluate_online which h]
    subst hc
    refine (each_get _ _ c).trans ?_
    rw [if_pos hg, evaluatedChan_eq]
  · rw [hslot]
    rcases hf : s.queue.groups[g].frame with _ | (b | b | ⟨b, reason⟩)
    · exact ⟨fun c hc => by rw [evaluatedSlot_empty hf, choice_of_isChoice hc]; rfl,
        fun hnone => by rw [evaluatedSlot_empty hf, choice_eq_none hnone]; rfl⟩
    · dsimp only
      split
      next hfly => exact evaluatedSlot_stands hf (.inl hfly)
      next hfly =>
        refine ⟨fun c hc => ?_, fun hnone => ?_⟩
        · rw [evaluatedSlot_queued hf hfly, choice_of_isChoice hc]
          rfl
        · rw [evaluatedSlot_queued hf hfly, choice_eq_none hnone]
          simp only [Option.isSome_none, Bool.false_eq_true, if_false, claimWithdrawn_queued hf hfly]
    · exact evaluatedSlot_stands hf (.inr nofun)
    · exact evaluatedSlot_stands hf (.inr nofun)

end

end Sys2Proof.Machine
end

section
/-! PROOF. The expiries that hand a change of the claim table on (03, R53, R55, R63; 04, R71; 07, R130), and the
end of the listen window (08, R145). -/

namespace Sys2Proof.Machine

section
variable {s u : State} {g : Group}

/-! ### A change of entries handed on (03, R45; 04, R71; 07, R130) -/

theorem entryChanged_eq (old new : Vector Entry 8) :
    entryChanged old new = fun g => decide (standing new[g] ≠ standing old[g]) := by
  funext g
  rw [entryChanged, decide_eq_decide, ne_comm]

/-- A change of entries handed on, as an evaluation of one state. -/
theorem handOnChanges_eq (old : Vector Entry 8) (u : State) : handOnChanges old u =
    evaluate (fun g => decide (standing u.table.entries[g] ≠ standing old[g])) { u with
      cad := if u.cad.cadence = .brisk ∧ TableDiffers old u.table.entries then
        { u.cad with quiet := quietWith u u.table.entries } else u.cad } := by
  rw [handOnChanges, entryChanged_eq, reportTable_eq]
  refine congrArg _ ?_
  by_cases hd : TableDiffers old u.table.entries
  · rw [if_pos ((anyChanged_iff _ _).mpr hd)]
    simp only [hd, and_true]
  · rw [if_neg fun h => hd ((anyChanged_iff _ _).mp h)]
    simp only [hd, and_false, if_false]

variable {old : Vector Entry 8} {e : Entry}

/-- Where one entry is written, its group alone is changed. -/
theorem changed_set (hne : standing e ≠ standing old[g]) :
    (fun d : Group => decide (standing (old.set g e)[d] ≠ standing old[d])) = fun d => decide (d = g) := by
  funext d
  rw [set_get, decide_eq_decide]
  split
  next h => subst h; simp only [hne, ne_eq, not_false_eq_true]
  next h => simp [Ne.symm h]

theorem tableDiffers_set (hne : standing e ≠ standing old[g]) : TableDiffers old (old.set g e) :=
  ⟨g, by rwa [set_get_same]⟩

/-- The change of one entry handed on: its group evaluated, and in BRISK the quiet timer by the table's report. -/
theorem handOnChanges_set (hentries : u.table.entries = s.table.entries.set g e)
    (hne : standing e ≠ standing s.table.entries[g]) : handOnChanges s.table.entries u =
    evaluate (fun d => decide (d = g)) { u with
      cad := if u.cad.cadence = .brisk then { u.cad with quiet := quietWith u u.table.entries } else u.cad } := by
  rw [handOnChanges_eq, hentries, changed_set hne]
  simp only [tableDiffers_set hne, and_true]

/-! ### A holder that loses its group (03, R47, R53; 06, R111) -/

/-- A withdrawal for one channel as an equation for the whole queue (06, R111). -/
theorem withdrawFor_eq (g : Group) (c : Channel) (q : TxQueue) : withdrawFor g c q = {
    setSlot q g (slotAfterWithdrawal (decide (q.inFlight = some (.group g))) (fun d => decide (d = c))
      q.groups[g]) with
    withdrawnInFlight := q.withdrawnInFlight || markedWithdrawn q g fun d => decide (d = c) } := by
  obtain ⟨recal, pulse, renewal, groups, inFlight, withdrawn, timer⟩ := q
  obtain ⟨frame, followUp, hsl⟩ : ∃ frame followUp, groups[g.val] = ⟨frame, followUp⟩ := ⟨_, _, rfl⟩
  have hself : groups.set g ⟨frame, followUp⟩ = groups := by rw [← hsl, Vector.set_getElem_self]
  cases frame with
  | none =>
    cases followUp with
    | none => simp [withdrawFor, frameNames, followUpNames, slotAfterWithdrawal, markedWithdrawn, setSlot, hsl, hself]
    | some r =>
      by_cases hr : r.1 = c <;>
        simp [withdrawFor, frameNames, followUpNames, slotAfterWithdrawal, markedWithdrawn, setSlot, hsl, hself,
          hr]
  | some f =>
    by_cases hfly : inFlight = some (.group g) <;> by_cases hf : frameChannel f = c <;> cases followUp with
    | none =>
      simp [withdrawFor, withdrawFrame, groupInFlight, frameNames, followUpNames, slotAfterWithdrawal,
        markedWithdrawn, setSlot, hsl, hself, hfly, hf]
    | some r =>
      by_cases hr : r.1 = c <;>
        simp [withdrawFor, withdrawFrame, groupInFlight, frameNames, followUpNames, slotAfterWithdrawal,
          markedWithdrawn, setSlot, hsl, hself, hfly, hf, hr]

theorem holderLoses_eq (g : Group) (h : Holder) (s : State) : holderLoses g h s = afterLoss g h s := by
  unfold holderLoses afterLoss loseContest State.isLocal
  simp only [decide_eq_true_eq]
  split
  · rw [withdrawFor_eq]
    split <;> rfl
  · rfl

/-! ### The evaluation of a FREE group (04, R72, R73) -/

/-- A FREE entry beats no candidate. -/
theorem evaluate_chans_of_free {which : Group → Bool} (hfree : ∀ g, which g = true → u.table.entries[g] = .free) :
    (evaluate which u).chans = u.chans := by
  unfold evaluate
  split
  · refine Vector.ext fun i hi => (each_get _ _ (⟨i, hi⟩ : Fin 16)).trans ?_
    show (if which u.chans[i].setup.group then _ else _) = _
    split
    next h => simp [evaluatedChan, hfree _ h, suppresses]
    next => rfl
  · rfl

/-- In a FREE group a candidate whose CLAIM is not in flight is eligible with its strength. -/
theorem eligibleWith_free (hfree : u.table.entries[g] = .free) (c : Channel) :
    eligibleWith u g c = if isJudged u g c then u.chans[c].delta.map clipped else none := by
  rw [eligibleWith, hfree]
  cases u.chans[c].delta <;> rfl

theorem isJudged_of_empty (hempty : u.queue.groups[g].frame = none) (c : Channel) :
    isJudged u g c = true ↔ u.chans[c].state = .candidate ∧ u.chans[c].setup.group = g := by
  simp only [isJudged, hempty, reduceCtorEq, and_false, not_false_eq_true, and_true, decide_eq_true_eq]

/-- The slot of a group called for in ONLINE after an evaluation. -/
theorem evaluate_slot_of_called {which : Group → Bool} (honline : u.ctrl.state = .online)
    (hg : which g = true) : (evaluate which u).queue.groups[g] = evaluatedSlot u g := by
  rw [evaluate_online which honline]
  exact (each_get _ _ g).trans (if_pos hg)

/-- A FREE group with an empty slot and no choice has no candidate with a strength. -/
theorem delta_of_choice_none (hfree : u.table.entries[g] = .free) (hempty : u.queue.groups[g].frame = none)
    (hchoice : choice u g = none) {d : Channel} (hstate : u.chans[d].state = .candidate)
    (hgroup : u.chans[d].setup.group = g) : u.chans[d].delta = none := by
  have hwith := eligibleWith_free hfree d
  rw [if_pos ((isJudged_of_empty hempty d).mpr ⟨hstate, hgroup⟩)] at hwith
  cases hdelta : u.chans[d].delta with
  | none => rfl
  | some delta =>
    rw [hdelta, Option.map_some] at hwith
    obtain ⟨b, hb, -⟩ := choice_of_eligible (eligibleWith_eq_some_iff.mp hwith).1
    rw [hchoice] at hb
    cases hb

/-- The choice of a FREE group with an empty slot is its strongest candidate. -/
theorem candidate_of_choice (hfree : u.table.entries[g] = .free) (hempty : u.queue.groups[g].frame = none)
    {c : Channel} (hchoice : choice u g = some c) :
    u.chans[c].state = .candidate ∧ u.chans[c].setup.group = g
      ∧ ∃ best, u.chans[c].delta.map clipped = some best
        ∧ ∀ (d : Channel) (n : Nat), u.chans[d].state = .candidate → u.chans[d].setup.group = g →
          u.chans[d].delta.map clipped = some n → n < best ∨ (n = best ∧ c ≤ d) := by
  obtain ⟨best, hbest, hmax⟩ := isChoice_of_choice hchoice
  rw [eligibleWith_free hfree] at hbest
  split at hbest
  next hjudged =>
    obtain ⟨hstate, hgroup⟩ := (isJudged_of_empty hempty c).mp hjudged
    refine ⟨hstate, hgroup, best, hbest, fun d n hd hdg hn => hmax d n ?_⟩
    rw [eligibleWith_free hfree, if_pos ((isJudged_of_empty hempty d).mpr ⟨hd, hdg⟩), hn]
  next => cases hbest

end

/-! ### The statements -/

/-- The station once group `g` has left GUARD, before its evaluation (03, R55). -/
def guardEnded (g : Group) (s : State) : State :=
  { s with
    table := { s.table with entries := s.table.entries.set g .free }
    cad := if s.cad.cadence = .brisk then
      { s.cad with quiet := quietWith s (s.table.entries.set g .free) } else s.cad }

/-- The guard timer's expiry as an equation for the whole state (03, R55). -/
theorem guardExpires_eq {s : State} {g : Group} (he : s.table.entries[g] = .guarded 0) :
    guardExpires g s = evaluate (fun d => decide (d = g)) (guardEnded g s) := by
  simp only [guardExpires, he]
  exact handOnChanges_set rfl (by rw [he]; exact nofun)

/-- Settles O33: the expiry is one evaluation of a FREE group, and the evaluation is `GroupEvaluated`. -/
theorem guardExpiryClaimsForTheStrongest : Obligations.GuardExpiryClaimsForTheStrongest := by
  refine ⟨fun s g hreset he honline hempty => ?_, fun s g hreset he => ?_, fun s g rem hreset he hrem => ?_,
    fun which s honline => ?_⟩
  · rw [exec_running hreset, eventEffect, guardExpires_eq he]
    simp only [Host.Outcome.next.injEq, exists_eq_left']
    obtain ⟨hpending, hwire, hinreset, htick, hfront, htracker, htable, hlink, hroster, hcad, hctrl, hlog, hhost⟩ :=
      evaluate_keeps (guardEnded g s) (fun d => decide (d = g))
    have hfree : (guardEnded g s).table.entries[g] = .free := set_get_same _ _ _
    have hframe : (evaluate (fun d => decide (d = g)) (guardEnded g s)).queue.groups[g].frame
        = (choice (guardEnded g s) g).map .claim := by
      rw [evaluate_slot_of_called (u := guardEnded g s) honline (decide_eq_true rfl),
        evaluatedSlot_empty (s := guardEnded g s) hempty]
    refine ⟨htable, evaluate_chans_of_free fun d hd => by rw [of_decide_eq_true hd]; exact hfree, ?_,
      fun d hd => evaluate_slot_other _ _ d (decide_eq_false hd), ?_, hlog, hlink, hroster, htracker,
      evaluate_sameOutsidePanel _ ⟨rfl, rfl, rfl, rfl, rfl, rfl, rfl, rfl⟩⟩
    · rw [hframe]
      cases hchoice : choice (guardEnded g s) g with
      | none => exact fun d hstate hgroup => delta_of_choice_none hfree hempty hchoice hstate hgroup
      | some c => exact candidate_of_choice hfree hempty hchoice
    · rw [hcad, htable]
      rfl
  · rw [exec_running hreset, eventEffect, guardExpires_eq he]
    rfl
  · obtain ⟨n, rfl⟩ := Nat.exists_eq_succ_of_ne_zero hrem.ne'
    rw [exec_running hreset, eventEffect]
    simp only [guardExpires, he]
  · refine ⟨?_, fun g hg => groupEvaluated_evaluate honline hg, fun g hg =>
      ⟨evaluate_slot_other which s g hg, fun c hc => evaluate_chan_other which s c (by rw [hc, hg])⟩⟩
    rw [evaluate_online which honline]

/-- The loss of a holder reaches the records and the queue alone. -/
theorem afterLoss_eq (g : Group) (h : Holder) (s : State) : afterLoss g h s =
    { s with chans := (afterLoss g h s).chans, queue := (afterLoss g h s).queue } := by
  unfold afterLoss
  split <;> rfl

/-- The station once a contest of group `g` has been abandoned, before the evaluation (03, R53, R65). -/
def contestAbandoned (g : Group) (h : Holder) (s : State) : State :=
  { s with
    chans := (afterLoss g h s).chans
    queue := (afterLoss g h s).queue
    table := { s.table with
      entries := s.table.entries.set g .free, abandoned := satInc s.table.abandoned }
    cad := if s.cad.cadence = .brisk then
      { s.cad with quiet := quietWith s (s.table.entries.set g .free) } else s.cad }

/-- The abandon timer's expiry as an equation for the whole state (03, R53). -/
theorem abandonExpires_eq {s : State} {g : Group} {h : Holder} {st : Nat} {contest : Option Nat}
    (he : s.table.entries[g] = .contested h st 0 contest) :
    abandonExpires g s = evaluate (fun d => decide (d = g)) (contestAbandoned g h s) := by
  simp only [abandonExpires, he, holderLoses_eq]
  rw [afterLoss_eq, handOnChanges_set (s := s) (g := g) (e := .free) rfl (by rw [he]; exact nofun)]
  rfl

section
variable {s : State} {g : Group} {h : Holder}

/-- The slot of a group whose local holder has lost it (06, R111). -/
theorem afterLoss_slot (hlocal : h.station = s.number) : (afterLoss g h s).queue.groups[g] =
    slotAfterWithdrawal (decide (s.queue.inFlight = some (.group g))) (fun d => decide (d = h.channel))
      s.queue.groups[g] := by
  rw [afterLoss, if_pos hlocal]
  exact set_get_same _ _ _

theorem afterLoss_slot_other {d : Group} (hd : d ≠ g) :
    (afterLoss g h s).queue.groups[d] = s.queue.groups[d] := by
  unfold afterLoss
  split
  · exact set_get_other _ hd.symm _
  · rfl

theorem afterLoss_inFlight : (afterLoss g h s).queue.inFlight = s.queue.inFlight := by
  unfold afterLoss
  split <;> rfl

theorem afterLoss_chan_other {d : Channel} (hd : h ≠ { station := s.number, channel := d }) :
    (afterLoss g h s).chans[d] = s.chans[d] := by
  unfold afterLoss
  split
  next hlocal =>
    have hne : h.channel ≠ d := by
      rintro rfl
      exact hd (by rw [← hlocal])
    dsimp only
    split
    · exact set_get_other _ hne _
    · rfl
  next => rfl

/-- A CONTENDING local holder that has lost its group is SUPPRESSED (03, R47, R53). -/
theorem afterLoss_chan (hlocal : h.station = s.number) (hstate : s.chans[h.channel].state = .contending) :
    (afterLoss g h s).chans[h.channel] = { s.chans[h.channel] with state := .suppressed, holdTimer := none } := by
  rw [afterLoss, if_pos hlocal, if_pos hstate]
  exact set_get_same _ _ _

end

/-- The frame in flight of a group evaluated, and its mark, stay (06, R108). -/
theorem evaluate_slot_of_flying {u : State} {g : Group} {f : GroupFrame} (which : Group → Bool)
    (hfly : u.queue.inFlight = some (.group g)) (hf : u.queue.groups[g].frame = some f) :
    (evaluate which u).queue.groups[g] = u.queue.groups[g] := by
  by_cases honline : u.ctrl.state = .online
  · cases hg : which g with
    | false => exact evaluate_slot_other which u g hg
    | true =>
      rw [evaluate_slot_of_called honline hg]
      have hframe := evaluatedSlot_stands hf (.inl hfly)
      have hfollow := evaluatedSlot_followUp u g
      rw [← hf] at hframe
      generalize evaluatedSlot u g = a at hframe hfollow
      generalize u.queue.groups[g] = b at hframe hfollow
      cases a
      cases b
      simp_all
  · rw [evaluate_offline which u (by simpa [State.online] using honline)]

/-- An evaluation writes the group slots of the queue alone. -/
theorem evaluate_queue (which : Group → Bool) (u : State) :
    (evaluate which u).queue = { u.queue with groups := (evaluate which u).queue.groups } := by
  unfold evaluate
  split <;> rfl

theorem evaluate_withdrawnInFlight (which : Group → Bool) (u : State) :
    (evaluate which u).queue.withdrawnInFlight = u.queue.withdrawnInFlight := by
  unfold evaluate
  split <;> rfl

/-- A slot without a frame holds a CLAIM or nothing after an evaluation (06, R108). -/
theorem evaluate_slot_of_empty {u : State} {g : Group} (which : Group → Bool)
    (hf : u.queue.groups[g].frame = none) :
    ((evaluate which u).queue.groups[g].frame.all isClaim) = true := by
  by_cases honline : u.ctrl.state = .online
  · cases hg : which g with
    | false => rw [evaluate_slot_other which u g hg, hf]; rfl
    | true =>
      rw [evaluate_slot_of_called honline hg, evaluatedSlot_empty hf]
      cases choice u g <;> rfl
  · rw [evaluate_offline which u (by simpa [State.online] using honline), hf]
    rfl

/-- Settles O32: the expiry is one evaluation of the station with its contest abandoned. -/
theorem abandonExpiryFreesTheGroup : Obligations.AbandonExpiryFreesTheGroup := by
  intro s g h st contest hreset
  refine ⟨fun he => ?_, fun rem he hrem => ?_⟩
  · obtain ⟨-, -, -, -, -, htracker, htable, hlink, hroster, hcad, -, hlog, -⟩ :=
      evaluate_keeps (contestAbandoned g h s) (fun d => decide (d = g))
    rw [exec_running hreset, eventEffect, abandonExpires_eq he]
    refine ⟨_, rfl, ?_, fun hlocal hstate => ?_, fun hlocal hfly hnames => ?_, fun hlocal hfly f hf hname => ?_,
      fun d hd => ?_, fun d hgroup hd => ?_, ?_, hlog, hlink, hroster, htracker,
      evaluate_sameOutsidePanel _ ⟨rfl, rfl, rfl, rfl, rfl, rfl, rfl, rfl⟩, ?_⟩
    · rw [htable, contestAbandoned, satInc_eq]
    · have hchan : (contestAbandoned g h s).chans[h.channel] = _ := afterLoss_chan hlocal hstate
      rw [evaluate_chan_of_ne_candidate _ _ _ (by rw [hchan]; exact nofun), hchan]
    · refine evaluate_slot_of_empty _ ?_
      show (afterLoss g h s).queue.groups[g].frame = none
      rw [afterLoss_slot hlocal]
      cases hf : s.queue.groups[g].frame with
      | none => simp only [slotAfterWithdrawal, hf, Option.any_none, Bool.false_and, Bool.false_eq_true, if_false]
      | some f =>
        rw [hf] at hnames
        have hname : frameChannel f = h.channel := by simpa using hnames
        simp only [slotAfterWithdrawal, hf, Option.any_some, hname, hfly, decide_true, decide_false, Bool.not_false,
          Bool.and_self, if_true]
    · have hslot : (contestAbandoned g h s).queue.groups[g] = { frame := some f, followUp := none } := by
        refine (afterLoss_slot hlocal).trans ?_
        simp only [slotAfterWithdrawal, hf, Option.any_some, hname, hfly, decide_true, Bool.not_true, Bool.and_false,
          Bool.false_eq_true, if_false, Bool.and_self, Bool.true_or, if_true]
      have hflying : (contestAbandoned g h s).queue.inFlight = some (.group g) := afterLoss_inFlight.trans hfly
      refine ⟨?_, by rw [evaluate_slot_of_flying _ hflying (by rw [hslot]), hslot]⟩
      rw [evaluate_withdrawnInFlight]
      show (afterLoss g h s).queue.withdrawnInFlight = true
      rw [afterLoss, if_pos hlocal]
      simp only [markedWithdrawn, hfly, hf, Option.any_some, hname, decide_true, Bool.and_self, Bool.or_true]
    · rw [evaluate_slot_other _ _ d (decide_eq_false hd)]
      exact afterLoss_slot_other hd
    · have hchan : (contestAbandoned g h s).chans[d] = s.chans[d] := afterLoss_chan_other hd
      rw [evaluate_chan_other _ _ d (by rw [hchan]; exact decide_eq_false hgroup), hchan]
    · rw [hcad, htable]
      rfl
    · rw [htable, hcad, afterLoss_eq]
      rfl
  · obtain ⟨n, rfl⟩ := Nat.exists_eq_succ_of_ne_zero hrem.ne'
    rw [exec_running hreset, eventEffect]
    simp only [abandonExpires, he]

/-! ### A peer lost (07, R123; 03, R63) -/

theorem freeHeldBy_eq (p : Station) (e : Entry) : freeHeldBy (fun h => decide (h.station = p)) e =
    if (entryHolder e).any (fun h => decide (h.station = p)) then .free else e := by
  cases e <;> simp [freeHeldBy, entryHolder]

/-- An entry is freed with a change of its standing exactly where the peer holds it. -/
theorem standing_freeHeldBy_ne_iff (p : Station) (e : Entry) :
    standing (freeHeldBy (fun h => decide (h.station = p)) e) ≠ standing e
      ↔ (entryHolder e).any (fun h => decide (h.station = p)) = true := by
  rw [freeHeldBy_eq]
  cases e with
  | free | guarded => simp [entryHolder]
  | contested h | owned h => by_cases hp : h.station = p <;> simp [entryHolder, standing, hp]

/-- The entries once the groups of a peer are freed. -/
def entriesFreed (p : Station) (entries : Vector Entry 8) : Vector Entry 8 :=
  each (fun _ e => freeHeldBy (fun h => decide (h.station = p)) e) entries

theorem entriesFreed_get (p : Station) (entries : Vector Entry 8) (g : Group) :
    (entriesFreed p entries)[g] = freeHeldBy (fun h => decide (h.station = p)) entries[g] := each_get _ _ g

/-- The station once a peer is lost and its groups freed, before the evaluation (03, R63; 07, R123). -/
def peerGone (p : Station) (s : State) : State :=
  { s with
    roster := s.roster.set p absentEntry
    table := { s.table with entries := entriesFreed p s.table.entries }
    log := ([Event.peerLost p] ++ keyUps (fun h => decide (h.station = p)) .peerLost s.table.entries).foldl
      logPut s.log
    cad := cadenceAfter false s (entriesFreed p s.table.entries) }

/-- The last-heard timer's expiry as an equation for the whole state (07, R123). -/
theorem peerExpires_eq {p : Station} {s : State} (hpresent : s.roster[p].present = true)
    (hheard : s.roster[p].lastHeard = some 0) : peerExpires p s = evaluate (fun g =>
      decide (standing (entriesFreed p s.table.entries)[g] ≠ standing s.table.entries[g])) (peerGone p s) := by
  rw [peerExpires, if_pos ⟨hpresent, hheard⟩, handOnChanges_eq]
  simp only [peerGone, cadenceAfter, Bool.false_eq_true, if_false, List.foldl_append, List.foldl_cons, List.foldl_nil]
  rfl

/-- Settles O36: the expiry is one evaluation of the station with the peer gone. -/
theorem silentPeerIsLost : Obligations.SilentPeerIsLost := by
  intro s p hreset hpresent
  refine ⟨fun hheard => ?_, fun rem hheard hrem => ?_⟩
  · obtain ⟨-, -, -, -, -, htracker, htable, hlink, hroster, hcad, -, hlog, -⟩ :=
      evaluate_keeps (peerGone p s) (fun g =>
        decide (standing (entriesFreed p s.table.entries)[g] ≠ standing s.table.entries[g]))
    have hdiffers : TableDiffers s.table.entries (entriesFreed p s.table.entries)
        ↔ ∃ g : Group, (entryHolder s.table.entries[g]).any (fun h => decide (h.station = p)) = true :=
      exists_congr fun g => by rw [entriesFreed_get, standing_freeHeldBy_ne_iff]
    rw [exec_running hreset, eventEffect, peerExpires_eq hpresent hheard]
    refine ⟨_, rfl, hroster, fun g => ?_, by rw [htable]; rfl, by rw [htable]; rfl, hlog, ?_, ?_, fun g hg => ?_, hlink,
      htracker, evaluate_sameOutsidePanel _ ⟨rfl, rfl, rfl, rfl, rfl, rfl, rfl, rfl⟩, ?_, ?_⟩
    · rw [htable]
      exact (entriesFreed_get _ _ g).trans (freeHeldBy_eq p _)
    · rw [hcad]
      simp only [peerGone, cadenceAfter, Bool.false_eq_true, if_false]
      split <;> rfl
    · rw [hcad, htable]
      simp only [peerGone, cadenceAfter, Bool.false_eq_true, if_false, hdiffers]
      split <;> rfl
    · refine evaluate_slot_other _ _ g (decide_eq_false ?_)
      rw [entriesFreed_get, standing_freeHeldBy_ne_iff]
      cases hholder : entryHolder s.table.entries[g] <;> simp_all
    · rw [hcad, htable]
      rfl
    · rw [htable, hroster, hlog, hcad]
      rfl
  · rw [exec_running hreset, eventEffect, peerExpires, if_neg]
    rintro ⟨-, h⟩
    rw [hheard] at h
    exact absurd (Option.some.inj h) hrem.ne'

/-- Settles O41, by the equations for the entry into ONLINE and LISTEN. -/
theorem listenAndMuteEnd : Obligations.ListenAndMuteEnd := by
  intro s hreset
  simp only [exec_running hreset, Host.Outcome.next.injEq, exists_eq_left', eventEffect]
  refine ⟨fun hstate htimer => ?_, fun hstate htimer => ?_, fun rem htimer hrem => ?_, fun rem htimer hrem => ?_⟩
  · rw [listenExpires, if_pos ⟨hstate, htimer⟩, enterOnline_eq]
    obtain ⟨-, -, -, -, hfront, htracker, htable, hlink, hroster, hcad, hctrl, hlog, hhost⟩ :=
      evaluate_keeps (onlineEntered s) (fun _ => true)
    have hpulse : (onlineEntered s).queue = { s.queue with
        intervalTimer := none, pulse := true
        renewal := s.queue.renewal || (s.queue.pulse && decide (s.queue.inFlight = some .pulse)) } :=
      pulseRequest_false _
    have hevaluated (g : Group) := groupEvaluated_evaluate (s := onlineEntered s) (which := fun _ => true)
      (g := g) rfl rfl
    have hentered : onlineEntered s = { onlineEntered s with queue := { s.queue with
        intervalTimer := none, pulse := true
        renewal := s.queue.renewal || (s.queue.pulse && decide (s.queue.inFlight = some .pulse)) } } := by
      rw [← hpulse]
    refine ⟨hctrl, hroster, hlink, ?_, ?_, ?_, hlog, fun g => ?_, htable, hcad, hfront, htracker, hhost⟩
    · rw [evaluate_queue, hpulse]
    · rw [evaluate_queue, hpulse]
    · rw [evaluate_queue, hpulse]
    · have h := hevaluated g
      rw [hentered] at h ⊢
      exact h
  · rw [muteExpires, if_pos ⟨hstate, htimer⟩, enterListen_eq, if_neg (by rw [hstate]; decide)]
    rfl
  · rw [listenExpires, if_neg]
    rintro ⟨-, h⟩
    rw [htimer] at h
    exact absurd (Option.some.inj h) hrem.ne'
  · rw [muteExpires, if_neg]
    rintro ⟨-, h⟩
    rw [htimer] at h
    exact absurd (Option.some.inj h) hrem.ne'

end Sys2Proof.Machine
end

section
/-! PROOF. The ends of an attempt without success: a failure and a lost arbitration (05, R96, R99, R101; 06, R116,
R117). First the slot and the CONFIRM asked for again, as equations; then the statements. -/

namespace Sys2Proof.Machine

section
variable {s : State} {g : Group}

/-! ### What an attempt end leaves of the queue (06, R116, R117; 04, R76) -/

theorem slotAtEnd_eq (withdrawn : Bool) (sl : GroupSlot) : slotAtEnd withdrawn sl = slotAfterEnd withdrawn sl := by
  obtain ⟨frame, followUp⟩ := sl
  rcases frame with _ | (c | c | ⟨c, reason⟩) <;> cases followUp <;> cases withdrawn <;> rfl

/-- The slot once the CONFIRM has been asked for again where the entry calls for none. -/
theorem slotConfirmedAgain_of_not {sl : GroupSlot}
    (h : ∀ h held abandon, s.table.entries[g] = .contested h held abandon none →
      ¬ (h.station = s.number ∧ s.chans[h.channel].state = .contending)) : slotConfirmedAgain s g sl = sl := by
  unfold slotConfirmedAgain
  split
  next h' held abandon he => rw [if_neg (h h' held abandon he)]
  next => rfl

/-- The CONFIRM asked for again in ONLINE, with the slot no longer in flight, as an equation for the whole state
(04, R76; 06, R117). -/
theorem confirmAgain_eq (honline : s.ctrl.state = .online) (hfly : s.queue.inFlight ≠ some (.group g)) :
    confirmAgain g s =
      { s with queue := setSlot s.queue g (slotConfirmedAgain s g s.queue.groups[g]) } := by
  by_cases hcalled : ∃ h held abandon, s.table.entries[g] = .contested h held abandon none
      ∧ h.station = s.number ∧ s.chans[h.channel].state = .contending
  · obtain ⟨h, held, abandon, he, hlocal, hstate⟩ := hcalled
    have hrequest : s.requestConfirm g h.channel = { s with queue := confirmRequest g h.channel s.queue } := by
      rw [State.requestConfirm, if_pos ((online_iff s).mpr honline)]
    have hself : { s with queue := setSlot s.queue g s.queue.groups[g] } = s := by rw [setSlot_self]
    simp only [confirmAgain, slotConfirmedAgain, he, hlocal, hstate, true_and, and_self, if_true]
    rcases hf : s.queue.groups[g].frame with _ | (d | d | ⟨d, reason⟩)
    · rw [if_pos nofun, hrequest, confirmRequest_empty _ hf]
    · rw [if_pos (by simp), hrequest, confirmRequest_claim _ hf, if_neg hfly]
    · dsimp only
      rw [hself, hrequest, confirmRequest_stands _ hf nofun, ite_self]
    · dsimp only
      rw [hself, hrequest, confirmRequest_stands _ hf nofun, ite_self]
  · have hnot (h : Holder) (held abandon : Nat) (he : s.table.entries[g] = .contested h held abandon none) :
        ¬ (h.station = s.number ∧ s.chans[h.channel].state = .contending) :=
      fun hc => hcalled ⟨h, held, abandon, he, hc⟩
    rw [slotConfirmedAgain_of_not hnot, setSlot_self]
    unfold confirmAgain
    split
    next h held abandon he =>
      rw [if_neg]
      rintro ⟨hlocal, hstate, -⟩
      exact hnot h held abandon he ⟨hlocal, hstate⟩
    next => rfl

/-- Outside ONLINE no CONFIRM is asked for again (06, R118). -/
theorem confirmAgain_offline (hoffline : s.ctrl.state ≠ .online) : confirmAgain g s = s := by
  have hrequest (c : Channel) : s.requestConfirm g c = s := by
    rw [State.requestConfirm, if_neg (by simpa [State.online] using hoffline)]
  unfold confirmAgain
  split
  · rw [hrequest, ite_self]
  · rfl

/-- The station once a failed attempt's slot, or that of one that lost, is no longer in flight, with the line as
given (06, R116). -/
def attemptOver (slot : TxSlot) (link : Link) (s : State) : State :=
  { s with queue := queueEnd slot s.queue, link := link }

/-- What an attempt end hands on in ONLINE: the slot settled with its CONFIRM, and the group evaluated (06,
R117). -/
theorem attemptEndHandled_group (honline : s.ctrl.state = .online) (g : Group) (link : Link) :
    attemptEndHandled (.group g) (attemptOver (.group g) link s) = evaluate (fun d => decide (d = g)) { s with
      link := link
      queue := { setSlot s.queue g (slotConfirmedAgain s g
          (slotAfterEnd s.queue.withdrawnInFlight s.queue.groups[g])) with
        inFlight := none, withdrawnInFlight := false } } := by
  have hover : (attemptOver (.group g) link s).queue.groups[g]
      = slotAfterEnd s.queue.withdrawnInFlight s.queue.groups[g] := by
    rw [← slotAtEnd_eq]
    exact set_get_same _ _ _
  have hconfirmed := confirmAgain_eq (s := attemptOver (.group g) link s) (g := g) honline (by exact nofun)
  rw [hover] at hconfirmed
  rw [attemptEndHandled, slotGroup]
  dsimp only
  rw [hconfirmed]
  simp only [attemptOver, queueEnd, clearFlight, setSlot, Vector.set_set]
  rfl

theorem attemptEndHandled_other {slot : TxSlot} (hslot : slotGroup slot = none) (s : State) :
    attemptEndHandled slot s = s := by
  rw [attemptEndHandled, hslot]

theorem endsAt_of {a : Attempt} {bit : Nat} (h : EndsAt a bit s) : endsAt a s.link.line bit = true := by
  obtain ⟨-, -, hbit, hread⟩ := h
  unfold endsAt readAsSent
  cases hline : s.link.line with
  | receiving bits =>
    have hbits : bitsRead s.link.line = bits := by rw [hline]; rfl
    split at hread
    next hprefix =>
      rw [hbits] at hprefix hread
      simp [hbit, hprefix, hread]
    next hprefix =>
      rw [hbits] at hprefix hread
      simp [hbit, hprefix, hread]
  | stopped | idle | seeking => simp [hbit]

/-- A failed attempt short of the sixteenth in a row (05, R99). -/
theorem failAttempt_of_lt {slot : TxSlot} (h : s.link.consecutive + 1 < 16) :
    failAttempt slot s = attemptEndHandled slot (attemptOver slot (failLink s.link) s) :=
  if_neg (Nat.not_le.mpr h)

/-- The sixteenth failure in a row ends ONLINE (05, R101). -/
theorem failAttempt_of_le {slot : TxSlot} (h : 16 ≤ s.link.consecutive + 1) :
    failAttempt slot s = if s.ctrl.leavePending then enterStopped .offline (attemptOver slot (failLink s.link) s)
      else enterMuted (attemptOver slot (failLink s.link) s) := if_pos h

theorem queueEnd_inFlight (slot : TxSlot) (q : TxQueue) : (queueEnd slot q).inFlight = none := by
  cases slot <;> rfl

/-- All that asking for the CONFIRM again can do: it writes its group's slot. -/
theorem confirmAgain_cases (g : Group) (s : State) :
    ∃ sl, confirmAgain g s = { s with queue := setSlot s.queue g sl } := by
  have hkept : ∃ sl, s = { s with queue := setSlot s.queue g sl } := ⟨s.queue.groups[g], by rw [setSlot_self]⟩
  unfold confirmAgain State.requestConfirm
  split
  next h _ _ _ =>
    split
    · split
      · obtain heq | heq := confirmRequest_cases g h.channel s.queue <;> rw [heq]
        · exact hkept
        · exact ⟨_, rfl⟩
      · exact hkept
    · exact hkept
  next => exact hkept

theorem attemptEndHandled_inFlight (slot : TxSlot) (s : State) :
    (attemptEndHandled slot s).queue.inFlight = s.queue.inFlight := by
  unfold attemptEndHandled
  split
  next g _ =>
    obtain ⟨sl, h⟩ := confirmAgain_cases g s
    rw [evaluate_queue, h]
    rfl
  next => rfl

theorem attemptEndHandled_slot_other {d : Group} (hd : d ≠ g) (s : State) :
    (attemptEndHandled (.group g) s).queue.groups[d] = s.queue.groups[d] := by
  rw [attemptEndHandled, slotGroup]
  dsimp only
  rw [evaluate_slot_other _ _ d (decide_eq_false hd)]
  obtain ⟨sl, h⟩ := confirmAgain_cases g s
  rw [h]
  exact setSlot_groups_other _ hd.symm _

/-- A stop says of the link only the two counters it keeps. -/
theorem StoppedFrom.of_link {st : StationState} {t : State} {slot : TxSlot} {link : Link}
    (h : StoppedFrom st (attemptOver slot link s) t) :
    StoppedFrom st { s with link := t.link } t := by
  obtain ⟨h1, h2, h3, h4, h5, h6, h7, h8, h9, h10, h11, h12, h13⟩ := h
  refine ⟨h1, h2, h3, h4, h5, h6, h7, h8, h9, h10, h11, ?_, h13⟩
  rw [h12]

end

/-- Settles O28. -/
theorem attemptFailureCountsAndMutes : Obligations.AttemptFailureCountsAndMutes := by
  intro s a bit hends honline hlow hhigh hfail
  obtain ⟨hreset, hatt, -, -⟩ := id hends
  have hcan : canFailAt a.frame bit = true := by
    simp only [canFailAt, sentDominant, Bool.and_eq_true, Bool.or_eq_true, decide_eq_true_eq, beq_iff_eq]
    exact ⟨⟨hlow, hhigh⟩, hfail⟩
  have ht : eventEffect (.attemptFailure bit) s = failAttempt a.slot s := by
    simp only [eventEffect, hatt, hcan, endsAt_of hends, and_self, if_true]
  rw [exec_running hreset, ht]
  refine ⟨_, rfl, ?_⟩
  by_cases hrun : s.link.consecutive + 1 < 16
  · have hlink : (failAttempt a.slot s).link = failLink s.link := by
      rw [failAttempt_of_lt hrun]
      exact (attemptEndHandled_keeps _ _).2.2.2.2.2.2.2.1
    have hhost : (failAttempt a.slot s).host = s.host := by
      rw [failAttempt_of_lt hrun]
      simp [attemptOver]
    have hfree : (failAttempt a.slot s).queue.inFlight = none := by
      rw [failAttempt_of_lt hrun, attemptEndHandled_inFlight]
      exact queueEnd_inFlight _ _
    rw [hlink]
    refine ⟨satInc_eq _, rfl, rfl, rfl, hfree, hhost, fun _ => ⟨rfl, rfl, fun hslot => ?_, fun hslot => ?_,
      fun g hslot => ?_⟩, fun h => absurd h (by omega), fun h => absurd h (by omega)⟩
    · rw [failAttempt_of_lt hrun, hslot, attemptEndHandled_other rfl]
      rfl
    · rw [failAttempt_of_lt hrun, hslot, attemptEndHandled_other rfl]
      rfl
    · rw [failAttempt_of_lt hrun, hslot, attemptEndHandled_group honline]
  · have hmany : 16 ≤ s.link.consecutive + 1 := by omega
    cases hleave : s.ctrl.leavePending with
    | true =>
      have hstopped : failAttempt a.slot s = enterStopped .offline (attemptOver a.slot (failLink s.link) s) := by
        rw [failAttempt_of_le hmany, hleave, if_pos rfl]
      have hfrom := stoppedFrom_enterStopped (st := .offline) (by decide) (by decide)
        (attemptOver a.slot (failLink s.link) s)
      obtain ⟨hlink, hqueue, hhost⟩ : (failAttempt a.slot s).link = _ ∧ (failAttempt a.slot s).queue = emptyQueue
          ∧ (failAttempt a.slot s).host = s.host := by
        rw [hstopped, enterStopped_eq]
        exact ⟨rfl, rfl, rfl⟩
      refine ⟨?_, ?_, ?_, ?_, ?_, hhost, fun h => absurd h hrun, fun _ _ => ?_, nofun⟩
      · rw [hlink]; exact satInc_eq _
      · rw [hlink]; rfl
      · rw [hlink]
      · rw [hlink]
      · rw [hqueue]; rfl
      · rw [hstopped]; exact hfrom.of_link
    | false =>
      have hmuted : failAttempt a.slot s = enterMuted (attemptOver a.slot (failLink s.link) s) := by
        rw [failAttempt_of_le hmany, hleave, if_neg (by decide)]
      rw [hmuted, enterMuted_eq]
      refine ⟨satInc_eq _, rfl, rfl, rfl, rfl, rfl, fun h => absurd h hrun, nofun, fun _ _ => ⟨rfl, rfl, ?_, rfl,
        getElem_replicate_free, rfl, fun c => ?_, rfl, rfl, rfl, rfl⟩⟩
      · rfl
      · exact each_get _ _ c

/-- Settles O29. -/
theorem arbitrationLossKeepsReceiving : Obligations.ArbitrationLossKeepsReceiving := by
  intro s a bit hends hlow hhigh hsent
  obtain ⟨hreset, hatt, -, -⟩ := id hends
  have hcan : canLoseAt a.frame bit = true := by
    simp [canLoseAt, sentDominant, hlow, hhigh, hsent]
  have ht : eventEffect (.lossOfArbitration bit) s = loseArbitration a bit s := by
    simp only [eventEffect, hatt, hcan, endsAt_of hends, and_self, if_true]
  rw [exec_running hreset, ht]
  have hlost : loseArbitration a bit s = attemptEndHandled a.slot (attemptOver a.slot { s.link with
      line := .receiving (bitsReadAtLoss a.frame bit), attempt := none, linkLow := false } s) := rfl
  have hkept := attemptEndHandled_keeps (attemptOver a.slot { s.link with
      line := .receiving (bitsReadAtLoss a.frame bit), attempt := none, linkLow := false } s) a.slot
  rw [← hlost] at hkept
  obtain ⟨hpending, hwire, hinreset, htick, hfront, htracker, htable, hlink, hroster, hcad, hctrl, hlog, hhost⟩ :=
    hkept
  refine ⟨_, rfl, hlink, ?_, fun hslot => ?_, fun hslot => ?_, fun g honline hslot => ?_, fun g hslot d hd => ?_,
    htable, hlog, hcad, hroster, htracker, hfront, hctrl, hhost, congrArg Tracker.settings htracker, hinreset, htick,
    hpending, hwire⟩
  · rw [hlost, attemptEndHandled_inFlight]
    exact queueEnd_inFlight _ _
  · rw [hlost, hslot, attemptEndHandled_other rfl]
    exact ⟨rfl, rfl⟩
  · rw [hlost, hslot, attemptEndHandled_other rfl]
    exact ⟨rfl, rfl⟩
  · rw [hlink, hlost, hslot, attemptEndHandled_group honline]
    rfl
  · rw [hlost, hslot]
    exact (attemptEndHandled_slot_other hd _).trans (set_get_other _ hd.symm _)

end Sys2Proof.Machine
end

section
/-! PROOF. What every conversion completion has in common (01, R2 to R5; 02, R25): the count handed to the tracker,
the tracker's report, and the scan that goes on; the rules for a record's count, and a channel that leaves its key
state. -/

namespace Sys2Proof.Machine

section
variable {s u : State} {c d : Channel} {n : Nat} {slot : Slot}

/-! ### The scan goes on (01, R3) -/

theorem scanProceeds_eq (slot : Slot) (u : State) :
    scanProceeds slot u = { u with front := (scanProceeds slot u).front } := by
  unfold scanProceeds
  split <;> rfl

theorem leavesSeeding_front (u : State) : (leavesSeeding u).front = u.front := by
  unfold leavesSeeding
  split <;> rfl

/-- While a record seeds, and outside SEEDING, the report changes nothing (08, R143). -/
theorem leavesSeeding_of_seeding (h : u.ctrl.state = .seeding → ∃ d : Channel, u.chans[d].state = .seeding) :
    leavesSeeding u = u := by
  rw [leavesSeeding, if_neg]
  rintro ⟨hstate, hnone⟩
  obtain ⟨d, hd⟩ := h hstate
  exact hnone d hd

/-- Everything outside the front end at a conversion completion: the count at the tracker and its report. -/
theorem exec_conversion (hreset : s.inReset = false) (hn : n ≤ 4095)
    (hconv : s.front.conversion = some (slot, 0)) :
    ∃ t, exec (.conversionCompletion n) s = .next t
      ∧ { t with front := s.front } = leavesSeeding (slotConversion slot n s) := by
  refine ⟨_, exec_running hreset _, ?_⟩
  have ht : eventEffect (.conversionCompletion n) s
      = scanProceeds slot (leavesSeeding (slotConversion slot n s)) := by
    have hn' : n ≤ Config.maxCount := hn
    simp only [eventEffect, completeConversion, hconv, hn', if_true, seedingReport_eq]
  have hfront : (leavesSeeding (slotConversion slot n s)).front = s.front := by
    rw [leavesSeeding_front]
    simp
  rw [ht, scanProceeds_eq, ← hfront]

/-! ### The records of a conversion (02, R19) -/

/-- With no group called for an evaluation changes nothing. -/
theorem evaluate_of_none {which : Group → Bool} (h : ∀ g, which g = false) : evaluate which s = s := by
  have hwhich : which = fun _ => false := funext h
  subst hwhich
  have heach {α : Type} {n : Nat} (v : Vector α n) : each (fun _ x => x) v = v := by simp [each]
  simp [evaluate, heach]

theorem setChan_get (s : State) (c d : Channel) (r : Chan) :
    (s.setChan c r).chans[d] = if c = d then r else s.chans[d] := set_get _ _ _ _

theorem setChan_get_same (s : State) (c : Channel) (r : Chan) : (s.setChan c r).chans[c] = r :=
  set_get_same _ _ _

/-- A record written leaves every other record that seeds. -/
theorem seeding_of_setChan {r : Chan} (hc : s.chans[c].state ≠ .seeding)
    (h : s.ctrl.state = .seeding → ∃ d : Channel, s.chans[d].state = .seeding) :
    s.ctrl.state = .seeding → ∃ d : Channel, (s.setChan c r).chans[d].state = .seeding := by
  intro hstate
  obtain ⟨d, hd⟩ := h hstate
  refine ⟨d, ?_⟩
  rw [setChan_get, if_neg]
  · exact hd
  · rintro rfl
    exact hc hd

/-- The record of channel `c` as its count is processed (02, R19). -/
def countedChan (s : State) (c : Channel) (n : Nat) : Chan :=
  { s.chans[c] with count := some n, rail := railAfter s.chans[c].rail n }

theorem seedCount_eq {paused : Bool} {n sum k : Nat} {r : Chan} (h : r.seed = some (sum, k)) :
    seedCount paused n r = if paused then r
      else if k + 1 < 16 then { r with seed := some (sum + n, k + 1) }
      else { r with
        seed := none, state := .idle, baseline := some ((sum + n) / 16)
        delta := some (((sum + n) / 16 : Nat) - (n : Int)), touchDebounce := 0, liftDebounce := 0, antiTouch := 0
        drift := 0 } := by
  have hrun : 16 ≤ k + 1 ↔ ¬ k + 1 < 16 := by omega
  simp only [seedCount, h, Option.getD_some, Config.seedRun, deltaOf, hrun, ite_not]

/-- A drift step by the side of the count on which the accumulator moves (02, R27). -/
theorem driftStep_eq (period b n : Nat) (acc : Int) : driftStep period b n acc =
    if b < n ∧ (period : Int) ≤ (if b < n then acc + 1 else if n < b then acc - 1 else acc) then (b + 1, 0)
    else if n < b ∧ (if b < n then acc + 1 else if n < b then acc - 1 else acc) ≤ -(period : Int) then (b - 1, 0)
    else (b, if b < n then acc + 1 else if n < b then acc - 1 else acc) := by
  unfold driftStep
  by_cases hbn : b < n
  · simp only [hbn, if_true, true_and, Nat.lt_asymm hbn, false_and, if_false]
  · by_cases hnb : n < b
    · simp only [hbn, if_false, false_and, hnb, if_true, true_and]
    · simp only [hbn, if_false, false_and, hnb]

/-- A count that no rail run faults is processed by the record's state (01, R11; 02, R19). -/
theorem keyCount_of_rail (hoff : s.chans[c].state ≠ .off) (hfaulted : s.chans[c].state ≠ .faulted)
    (hrail : railAfter s.chans[c].rail n < 16) : keyCount c n s =
      carryOut c (processCount s.tracker.settings s.tracker.hushed n (countedChan s c n)) s := by
  have hrun : ¬ Config.railRun ≤ railAfter s.chans[c].rail n := Nat.not_le.mpr hrail
  unfold keyCount
  dsimp only
  split
  next h => exact absurd h hoff
  next h => exact absurd h hfaulted
  next => rw [if_neg hrun]; rfl

/-- When a conversion completion calls for the evaluation of its channel's group (04, R71, R75, R77). -/
theorem callsEvaluation_iff (c : Channel) (s u : State) : callsEvaluation c s u = true ↔
    (s.chans[c].state = .candidate ∧ claimInFlight s.queue s.chans[c].setup.group c = false)
      ∨ (u.chans[c].state = .candidate ∧ s.chans[c].state ≠ .candidate)
      ∨ ((s.chans[c].state = .candidate ∨ s.chans[c].state = .contending)
        ∧ (u.chans[c].state = .idle ∨ u.chans[c].state = .faulted)) := by
  simp only [callsEvaluation, Bool.or_eq_true, Bool.and_eq_true, decide_eq_true_eq, Bool.not_eq_true', or_assoc]

/-- A conversion whose count leaves the records as `u` has them, as one evaluation. -/
theorem keyConversion_eq {which : Group → Bool} (hcount : keyCount c n s = u)
    (hwhich : ∀ g, which g = true ↔ callsEvaluation c s u = true ∧ g = s.chans[c].setup.group) :
    keyConversion c n s = evaluate which u := by
  rw [keyConversion, hcount]
  refine congrFun (congrArg evaluate (funext fun g => Bool.eq_iff_iff.mpr ?_)) u
  rw [hwhich, Bool.and_eq_true, decide_eq_true_eq]

/-- A conversion that calls for no evaluation. -/
theorem keyConversion_of_kept (hcount : keyCount c n s = u) (hwas : s.chans[c].state ≠ .candidate)
    (his : u.chans[c].state ≠ .candidate)
    (hleft : s.chans[c].state = .contending → u.chans[c].state ≠ .idle ∧ u.chans[c].state ≠ .faulted) :
    keyConversion c n s = u := by
  rw [keyConversion_eq (which := fun _ => false) hcount, evaluate_of_none fun _ => rfl]
  intro g
  rw [callsEvaluation_iff]
  constructor
  · exact nofun
  · rintro ⟨⟨h, -⟩ | ⟨h, -⟩ | ⟨h | h, h'⟩, -⟩
    · exact absurd h hwas
    · exact absurd h his
    · exact absurd h hwas
    · obtain h' | h' := h'
      · exact absurd h' (hleft h).1
      · exact absurd h' (hleft h).2

/-- Where the conversion calls for the evaluation of its channel's group. -/
theorem keyConversion_of_called (hcount : keyCount c n s = u) (hcalls : callsEvaluation c s u = true) :
    keyConversion c n s = evaluate (fun g => decide (g = s.chans[c].setup.group)) u :=
  keyConversion_eq hcount fun g => by rw [decide_eq_true_eq]; exact ⟨fun h => ⟨hcalls, h⟩, fun h => h.2⟩

/-- An evaluation leaves every record that seeds. -/
theorem leavesSeeding_evaluate (which : Group → Bool)
    (h : u.ctrl.state = .seeding → ∃ d : Channel, u.chans[d].state = .seeding) :
    leavesSeeding (evaluate which u) = evaluate which u := by
  refine leavesSeeding_of_seeding fun hstate => ?_
  obtain ⟨d, hd⟩ := h (by simpa using hstate)
  exact ⟨d, by rw [evaluate_chan_of_ne_candidate _ _ _ (by rw [hd]; decide)]; exact hd⟩

end

end Sys2Proof.Machine
end

section
/-! PROOF. The counts of a key channel, state by state (01, R11 to R15; 02, R23 to R33). -/

namespace Sys2Proof.Machine

section
variable {s : State} {c : Channel} {n b : Nat}

/-- A count in IDLE, in the state's own row (02, R26 to R29). -/
theorem processCount_idle {st : Settings} {hushed : Bool} {r : Chan} (hstate : r.state = .idle)
    (hbaseline : r.baseline = some b) : processCount st hushed n r = idleCount st hushed n b r := by
  simp only [processCount, hstate, hbaseline]

theorem processCount_arming {st : Settings} {hushed : Bool} {r : Chan} (hstate : r.state = .arming)
    (hbaseline : r.baseline = some b) : processCount st hushed n r = armingCount st n b r := by
  simp only [processCount, hstate, hbaseline]

theorem processCount_claimSide {st : Settings} {hushed : Bool} {r : Chan} (hstate : claimSide r.state = true)
    (hbaseline : r.baseline = some b) : processCount st hushed n r = claimSideCount st n b r := by
  cases h : r.state with
  | off | faulted | seeding | idle | arming => rw [h] at hstate; cases hstate
  | candidate | suppressed | contending | pressed => simp only [processCount, h, hbaseline]

end

/-- Settles O7. -/
theorem seedingTakesSixteenCounts : Obligations.SeedingTakesSixteenCounts := by
  intro s c n sum k hreset hn hconv hstate hseed hrail
  obtain ⟨t, ht, heq⟩ := exec_conversion hreset hn hconv
  refine ⟨t, ht, heq.trans (congrArg leavesSeeding ?_)⟩
  have hs : (countedChan s c n).state = .seeding := hstate
  have hprocess : processCount s.tracker.settings s.tracker.hushed n (countedChan s c n)
      = (seedCount s.tracker.hushed n (countedChan s c n), .none) := by
    simp only [processCount, hs]
  have hcount : keyCount c n s = s.setChan c (seedCount s.tracker.hushed n (countedChan s c n)) := by
    rw [keyCount_of_rail (by rw [hstate]; decide) (by rw [hstate]; decide) hrail, hprocess]
    rfl
  rw [seedCount_eq (r := countedChan s c n) (sum := sum) (k := k) hseed] at hcount
  refine keyConversion_of_kept hcount (by rw [hstate]; decide) ?_ fun h => ?_
  · rw [setChan_get_same]
    split_ifs
    · exact ne_of_eq_of_ne hs (by decide)
    · exact ne_of_eq_of_ne hs (by decide)
    · exact nofun
  · rw [hstate] at h
    cases h

/-- An IDLE record after a count that does not arm it: the delta alone while hushed; else anti-touch, or a drift
step (02, R26 to R29). -/
def trackedChan (period : Int) (hushed : Bool) (n b : Nat) (r : Chan) : Chan :=
  let acc : Int := if b < n then r.drift + 1 else if n < b then r.drift - 1 else r.drift
  if hushed then { r with delta := some ((b : Int) - n) }
  else if b + r.setup.touchThreshold ≤ n ∧ 4 ≤ r.antiTouch + 1 then
    { r with baseline := some n, drift := 0, antiTouch := 0, delta := some 0 }
  else
    let anti := if b + r.setup.touchThreshold ≤ n then r.antiTouch + 1 else 0
    if b < n ∧ period ≤ acc then
      { r with baseline := some (b + 1), drift := 0, antiTouch := anti, delta := some (((b + 1 : Nat) : Int) - n) }
    else if n < b ∧ acc ≤ -period then
      { r with baseline := some (b - 1), drift := 0, antiTouch := anti, delta := some (((b - 1 : Nat) : Int) - n) }
    else { r with drift := acc, antiTouch := anti, delta := some ((b : Int) - n) }

theorem trackIdle_eq {period n b : Nat} {r : Chan} (hbaseline : r.baseline = some b) :
    trackIdle period b n r = trackedChan period false n b r := by
  have hanti : 4 ≤ (if b + r.setup.touchThreshold ≤ n then r.antiTouch + 1 else 0)
      ↔ b + r.setup.touchThreshold ≤ n ∧ 4 ≤ r.antiTouch + 1 := by
    split <;> simp_all
  simp only [trackIdle, trackedChan, driftStep_eq, Config.antiTouchRun, hanti, Bool.false_eq_true, if_false, deltaOf]
  generalize (if b < n then r.drift + 1 else if n < b then r.drift - 1 else r.drift) = acc
  split
  · rfl
  · split
    · rfl
    · split
      · rfl
      · rw [hbaseline]

theorem idleCount_of_quiet {st : Settings} {hushed : Bool} {n b : Nat} {r : Chan} (hbaseline : r.baseline = some b)
    (h : hushed = true ∨ (b : Int) - n < r.setup.touchThreshold) :
    idleCount st hushed n b r = (trackedChan st.driftPeriod hushed n b r, .none) := by
  cases hushed with
  | true => rfl
  | false =>
    have hlow : ¬ (r.setup.touchThreshold : Int) ≤ deltaOf b n := by
      obtain h | h := h
      · cases h
      · exact Int.not_le.mpr h
    rw [← trackIdle_eq hbaseline]
    simp only [idleCount, hlow, Bool.false_eq_true, if_false]

theorem trackedChan_state (period : Int) (hushed : Bool) (n b : Nat) (r : Chan) :
    (trackedChan period hushed n b r).state = r.state := by
  unfold trackedChan
  dsimp only
  split_ifs <;> rfl

/-- Settles O8. -/
theorem idleRecordTracksSlowChange : Obligations.IdleRecordTracksSlowChange := by
  intro s c n b hreset hn hconv hstate hbaseline hrail hseeds hquiet
  obtain ⟨t, ht, heq⟩ := exec_conversion hreset hn hconv
  have hcount : keyCount c n s
      = s.setChan c (trackedChan s.tracker.settings.driftPeriod s.tracker.hushed n b (countedChan s c n)) := by
    rw [keyCount_of_rail (by rw [hstate]; decide) (by rw [hstate]; decide) hrail,
      processCount_idle (r := countedChan s c n) (b := b) hstate hbaseline,
        idleCount_of_quiet (r := countedChan s c n) hbaseline hquiet]
    rfl
  have hidle : (s.setChan c (trackedChan s.tracker.settings.driftPeriod s.tracker.hushed n b
      (countedChan s c n))).chans[c].state = .idle := by
    rw [setChan_get_same, trackedChan_state]
    exact hstate
  have hkept := keyConversion_of_kept hcount (by rw [hstate]; decide) (by rw [hidle]; decide)
    (fun h => by rw [hstate] at h; cases h)
  refine ⟨t, ht, heq.trans ?_⟩
  rw [slotConversion, hkept]
  exact leavesSeeding_of_seeding (seeding_of_setChan (by rw [hstate]; decide) hseeds)

/-! ### Local activity (07, R128, R129, R132) -/

/-- A touch that is local activity, as an equation for the whole state. -/
theorem activity_true_eq (s : State) : activity true s = { s with
    cad := { cadence := .brisk, quiet := quietWith s s.table.entries, stirred := true, taken := false }
    log := (wakeEvents s).foldl logPut s.log
    queue := if s.cad.cadence = .slack ∧ s.ctrl.state = .online then pulseRequest false s.queue
      else s.queue } := by
  cases hc : s.cad.cadence with
  | brisk => simp [activity, stir, quietAfresh_eq, wakeEvents, hc]
  | slack =>
    by_cases ho : s.ctrl.state = .online <;>
      simp [activity, stir, changeCadence, State.requestPulse, State.online, State.put, quietAfresh, quietWith,
        wakeEvents, State.number, hc, ho]

/-- Settles O9. -/
theorem touchArmsAndStirs : Obligations.TouchArmsAndStirs := by
  intro s c n b hreset hn hconv hstate hbaseline hrail hhushed htouch hseeds
  obtain ⟨t, ht, heq⟩ := exec_conversion hreset hn hconv
  have hidle : idleCount s.tracker.settings s.tracker.hushed n b (countedChan s c n) =
      if s.tracker.settings.touchDebounce ≤ 1 then ({ countedChan s c n with
        delta := some ((b : Int) - n), antiTouch := 0, state := .candidate,
          touchDebounce := 0, liftDebounce := 0 }, .touched)
      else ({ countedChan s c n with
        delta := some ((b : Int) - n), antiTouch := 0, state := .arming, touchDebounce := 1 }, .armed) := by
    have hover : ((countedChan s c n).setup.touchThreshold : Int) ≤ deltaOf b n := htouch
    simp only [idleCount, hhushed, Bool.false_eq_true, if_false, hover, if_true]
    rfl
  have hcount : keyCount c n s = carryOut c
      (idleCount s.tracker.settings s.tracker.hushed n b (countedChan s c n)) s := by
    rw [keyCount_of_rail (by rw [hstate]; decide) (by rw [hstate]; decide) hrail,
      processCount_idle (r := countedChan s c n) (b := b) hstate hbaseline]
  rw [hidle] at hcount
  refine ⟨t, ht, fun hdebounce => heq.trans ?_, fun hdebounce => heq.trans ?_⟩
  · rw [if_neg (by omega)] at hcount
    have hstirred : keyCount c n s = _ := hcount.trans (activity_true_eq _)
    have harming : (keyCount c n s).chans[c].state = .arming := by
      rw [hstirred]
      exact congrArg Chan.state (setChan_get_same s c _)
    rw [slotConversion, keyConversion_of_kept rfl (by rw [hstate]; decide) (by rw [harming]; decide)
      (fun h => by rw [hstate] at h; cases h), leavesSeeding_of_seeding, hstirred]
    · rfl
    · rw [hstirred]
      exact seeding_of_setChan (by rw [hstate]; decide) hseeds
  · rw [if_pos hdebounce] at hcount
    have hstirred : keyCount c n s = _ := hcount.trans (activity_true_eq _)
    have hcandidate : (keyCount c n s).chans[c].state = .candidate := by
      rw [hstirred]
      exact congrArg Chan.state (setChan_get_same s c _)
    have hcalls : callsEvaluation c s (keyCount c n s) = true :=
      (callsEvaluation_iff _ _ _).mpr (.inr (.inl ⟨hcandidate, by rw [hstate]; decide⟩))
    rw [slotConversion, keyConversion_of_called rfl hcalls, leavesSeeding_evaluate, hstirred]
    · rfl
    · rw [hstirred]
      exact seeding_of_setChan (by rw [hstate]; decide) hseeds

/-- Settles O10. -/
theorem armingQualifiesATouch : Obligations.ArmingQualifiesATouch := by
  intro s c n b hreset hn hconv hstate hbaseline hrail hseeds
  obtain ⟨t, ht, heq⟩ := exec_conversion hreset hn hconv
  refine ⟨t, ht, heq.trans ?_⟩
  have hcount : keyCount c n s = carryOut c (armingCount s.tracker.settings n b (countedChan s c n)) s := by
    rw [keyCount_of_rail (by rw [hstate]; decide) (by rw [hstate]; decide) hrail,
      processCount_arming (r := countedChan s c n) (b := b) hstate hbaseline]
  have hkept (r : Chan) (hr : r.state ≠ .candidate)
      (hout : armingCount s.tracker.settings n b (countedChan s c n) = (r, .none)) :
      leavesSeeding (slotConversion (.channel c) n s) = s.setChan c r := by
    rw [hout] at hcount
    rw [slotConversion, keyConversion_of_kept (u := s.setChan c r) hcount (by rw [hstate]; decide)
      (by rwa [setChan_get_same]) (fun h => by rw [hstate] at h; cases h)]
    exact leavesSeeding_of_seeding (seeding_of_setChan (by rw [hstate]; decide) hseeds)
  have hbelow : ((countedChan s c n).setup.touchThreshold : Int) ≤ deltaOf b n
      ↔ ¬ (b : Int) - n < s.chans[c].setup.touchThreshold := by
    rw [deltaOf, Int.not_lt]
    rfl
  dsimp only
  split
  next hlow =>
    refine hkept _ (by exact nofun) ?_
    simp only [armingCount, hbelow, hlow, not_true_eq_false, if_false]
    rfl
  next hhigh =>
    split
    next hmore =>
      refine hkept _ (ne_of_eq_of_ne hstate (by decide)) ?_
      have hnot : ¬ s.tracker.settings.touchDebounce ≤ (countedChan s c n).touchDebounce + 1 :=
        Nat.not_le.mpr hmore
      simp only [armingCount, hbelow, hhigh, not_false_eq_true, if_true, hnot, if_false]
      rfl
    next hdone =>
      have hout : armingCount s.tracker.settings n b (countedChan s c n)
          = (toCandidate { countedChan s c n with delta := some (deltaOf b n) }, .touched) := by
        have hmet : s.tracker.settings.touchDebounce ≤ (countedChan s c n).touchDebounce + 1 :=
          Nat.not_lt.mp hdone
        simp only [armingCount, hbelow, hhigh, not_false_eq_true, if_true, hmet]
      have hcandidate : (keyCount c n s).chans[c].state = .candidate := by
        rw [hcount, hout]
        show (activity true _).chans[c].state = _
        rw [activity_true_eq]
        exact congrArg Chan.state (setChan_get_same s c _)
      have hcalls : callsEvaluation c s (keyCount c n s) = true :=
        (callsEvaluation_iff _ _ _).mpr (.inr (.inl ⟨hcandidate, by rw [hstate]; decide⟩))
      rw [slotConversion, keyConversion_of_called rfl hcalls, leavesSeeding_evaluate, hcount, hout]
      · rfl
      · rw [hcount, hout]
        show (activity true _).ctrl.state = _ → ∃ d : Channel, (activity true _).chans[d].state = _
        rw [activity_true_eq]
        exact seeding_of_setChan (by rw [hstate]; decide) hseeds

theorem isRail_iff (n : Nat) : isRail n = true ↔ n = 0 ∨ n = 4095 := by
  show (decide (n = 0) || decide (n = 4095)) = true ↔ _
  simp

/-- A count in FAULTED as one equation (01, R14, R15). -/
theorem faultedCount_eq {s : State} {c : Channel} {n k : Nat} (hinRange : s.chans[c].inRange = some k) :
    faultedCount c n s =
      if n = 0 ∨ n = 4095 then s.setChan c { s.chans[c] with count := some n, inRange := some 0 }
      else if k + 1 < 16 then s.setChan c { s.chans[c] with count := some n, inRange := some (k + 1) }
      else (s.setChan c { s.chans[c] with
        count := some n, state := .seeding, delta := none, deviation := none, touchDebounce := 0
        liftDebounce := 0, drift := 0, antiTouch := 0, seed := some (0, 0), holdTimer := none, rail := 0
        inRange := none }).put (.channelRecovered s.number c) := by
  have hrun : 16 ≤ k + 1 ↔ ¬ k + 1 < 16 := by omega
  unfold faultedCount
  simp only [inRangeAfter, isRail_iff, hinRange, Option.getD_some, Config.railRun]
  by_cases hn : n = 0 ∨ n = 4095
  · simp only [hn, if_true]
    rfl
  · simp only [hn, if_false, hrun, ite_not]
    rfl

/-- Settles O13. -/
theorem faultedChannelRecoversInRange : Obligations.FaultedChannelRecoversInRange := by
  intro s c n k hreset hn hconv hstate hinRange hseeds
  obtain ⟨t, ht, heq⟩ := exec_conversion hreset hn hconv
  refine ⟨t, ht, heq.trans ?_⟩
  have hcount : keyCount c n s = faultedCount c n s := by simp only [keyCount, hstate]
  rw [faultedCount_eq hinRange] at hcount
  rw [slotConversion, keyConversion_of_kept hcount (by rw [hstate]; decide) ?_
    (fun h => by rw [hstate] at h; cases h)]
  · refine leavesSeeding_of_seeding ?_
    have hother {r : Chan} := seeding_of_setChan (r := r) (s := s) (c := c) (by rw [hstate]; decide) hseeds
    split_ifs
    · exact hother
    · exact hother
    · exact hother
  · split_ifs
    · rw [setChan_get_same]
      exact ne_of_eq_of_ne hstate (by decide)
    · rw [setChan_get_same]
      exact ne_of_eq_of_ne hstate (by decide)
    · show ((s.setChan c _).chans[c]).state ≠ _
      rw [setChan_get_same]
      exact nofun

end Sys2Proof.Machine
end

section
/-! PROOF. A channel that leaves its key state asks for the frames of that state (01, R13; 02, R36; 04, R75, R77,
R80, R81), and the statements that speak of it: a lift, a rail fault and a RESEED. -/

namespace Sys2Proof.Machine

section
variable {s : State} {c : Channel} {g : Group} {reason : Reason} {q : TxQueue}

/-! ### The RELEASE asked for by the table (06, R110) -/

/-- A CANDIDATE whose CLAIM stands: withdrawn, or followed up in flight. -/
theorem releaseRequest_candidate (hframe : q.groups[g].frame = some (.claim c))
    (hrow : hasLeaveRow .candidate (decide (q.inFlight = some (.group g))) q.withdrawnInFlight c q.groups[g] = true) :
    releaseRequest g c reason q = setSlot q g
      (slotAfterLeave .candidate (decide (q.inFlight = some (.group g))) c reason q.groups[g]) := by
  obtain ⟨frame, followUp, hslot⟩ : ∃ frame followUp, q.groups[g] = ⟨frame, followUp⟩ := ⟨_, _, rfl⟩
  unfold releaseRequest
  rw [hslot] at hrow hframe ⊢
  obtain rfl : frame = some (.claim c) := hframe
  cases followUp <;>
    by_cases hfly : q.inFlight = some (.group g) <;> simp_all [hasLeaveRow, slotAfterLeave, groupInFlight]

/-- A CONTENDING channel whose slot stands as a row of the table. -/
theorem releaseRequest_contending
    (hrow : hasLeaveRow .contending (decide (q.inFlight = some (.group g))) q.withdrawnInFlight c q.groups[g] = true) :
    releaseRequest g c reason q = setSlot q g
      (slotAfterLeave .contending (decide (q.inFlight = some (.group g))) c reason q.groups[g]) := by
  obtain ⟨frame, followUp, hslot⟩ : ∃ frame followUp, q.groups[g] = ⟨frame, followUp⟩ := ⟨_, _, rfl⟩
  unfold releaseRequest
  rw [hslot] at hrow ⊢
  rcases frame with _ | (d | d | ⟨d, reason'⟩) <;> cases followUp <;>
    by_cases hfly : q.inFlight = some (.group g) <;> simp_all [hasLeaveRow, slotAfterLeave, groupInFlight]

/-- A PRESSED channel's empty slot takes the RELEASE. -/
theorem releaseRequest_pressed
    (hrow : hasLeaveRow .pressed (decide (q.inFlight = some (.group g))) q.withdrawnInFlight c q.groups[g] = true) :
    releaseRequest g c reason q = setSlot q g
      (slotAfterLeave .pressed (decide (q.inFlight = some (.group g))) c reason q.groups[g]) := by
  obtain ⟨frame, followUp, hslot⟩ : ∃ frame followUp, q.groups[g] = ⟨frame, followUp⟩ := ⟨_, _, rfl⟩
  unfold releaseRequest
  rw [hslot] at hrow ⊢
  cases frame <;> cases followUp <;>
    by_cases hfly : q.inFlight = some (.group g) <;> simp_all [hasLeaveRow, slotAfterLeave, groupInFlight]

/-! ### The contest timer stopped (03, R50) -/

theorem stopContest_eq (g : Group) (c : Channel) (s : State) : stopContest g c s = { s with
    table := { s.table with
      entries := s.table.entries.set g (entryAfterLeave s.number c .contending s.table.entries[g]) } } := by
  have hself : s.table.entries.set g s.table.entries[g] = s.table.entries := Vector.set_getElem_self _
  cases he : s.table.entries[g] with
  | contested h held abandon contest =>
    by_cases hown : h = { station := s.number, channel := c }
    · simp only [stopContest, entryAfterLeave, he, if_pos hown, true_and]
    · rw [he] at hself
      simp only [stopContest, entryAfterLeave, he, if_neg hown, true_and, hself]
  | free => rw [he] at hself; simp only [stopContest, entryAfterLeave, he, hself]
  | owned h held since => rw [he] at hself; simp only [stopContest, entryAfterLeave, he, hself]
  | guarded left => rw [he] at hself; simp only [stopContest, entryAfterLeave, he, hself]

end

/-- The reason a channel's frames carry: a lift of a PRESSED one is sent as LIFT (04, R80). -/
def sentReason (st : ChanState) (reason : Reason) : Reason :=
  if st = .pressed ∧ reason = .withdrawn then .lift else reason

theorem sentReason_of_ne {st : ChanState} {reason : Reason} (h : reason ≠ .withdrawn) :
    sentReason st reason = reason := if_neg fun hc => h hc.2

/-- The contest timer's entry of a channel that was not CONTENDING stays. -/
theorem entryAfterLeave_of_ne {own : Station} {c : Channel} {st : ChanState} (h : st ≠ .contending) (e : Entry) :
    entryAfterLeave own c st e = e := by
  unfold entryAfterLeave
  split
  · rw [if_neg fun hc => h hc.1]
  · rfl

/-- A RELEASE request with its slot as a row of the tables, as an equation for the whole state. -/
theorem requestRelease_eq {s : State} {g : Group} {sl : GroupSlot} {c : Channel} {reason : Reason}
    (h : s.ctrl.state = .online → releaseRequest g c reason s.queue = setSlot s.queue g sl) :
    s.requestRelease g c reason =
      { s with queue := if s.ctrl.state = .online then setSlot s.queue g sl else s.queue } := by
  by_cases honline : s.ctrl.state = .online
  · rw [State.requestRelease, if_pos ((online_iff s).mpr honline), if_pos honline, h honline]
  · rw [State.requestRelease, if_neg (fun hc => honline ((online_iff s).mp hc)), if_neg honline]

/-- A channel that leaves its key state, with its slot as a row of the tables, as one equation. -/
theorem leaveClaimSide_setChan {s : State} {c : Channel} (reason : Reason) (r : Chan) (h : LeavesByTable s c) :
    (leaveClaimSide reason c s).setChan c r = afterLeave (sentReason s.chans[c].state reason) c r s := by
  have hself : s.table.entries.set s.chans[c].setup.group s.table.entries[s.chans[c].setup.group]
      = s.table.entries := Vector.set_getElem_self _
  have hqueue : setSlot s.queue s.chans[c].setup.group s.queue.groups[s.chans[c].setup.group] = s.queue :=
    setSlot_self _ _
  have hrow : s.ctrl.state = .online → hasLeaveRow s.chans[c].state
    (decide (s.queue.inFlight = some (.group s.chans[c].setup.group)))
      s.queue.withdrawnInFlight c s.queue.groups[s.chans[c].setup.group] = true := h
  unfold leaveClaimSide afterLeave
  cases hstate : s.chans[c].state with
  | candidate =>
    rw [hstate] at hrow
    dsimp only
    rw [entryAfterLeave_of_ne (by decide), hself]
    by_cases hframe : s.queue.groups[s.chans[c].setup.group].frame = some (.claim c)
    · rw [if_pos hframe, requestRelease_eq fun honline => releaseRequest_candidate hframe (hrow honline)]
      rfl
    · rw [if_neg hframe]
      simp only [slotAfterLeave, ne_eq, hframe, not_false_eq_true, if_true, hqueue, ite_self]
      rfl
  | contending =>
    rw [hstate] at hrow
    dsimp only
    rw [requestRelease_eq (sl := slotAfterLeave .contending
      (decide (s.queue.inFlight = some (.group s.chans[c].setup.group))) c reason
      s.queue.groups[s.chans[c].setup.group]) ?_, stopContest_eq]
    · rfl
    · rw [stopContest_eq]
      exact fun honline => releaseRequest_contending (hrow honline)
  | pressed =>
    rw [hstate] at hrow
    dsimp only
    rw [entryAfterLeave_of_ne (by decide), hself, requestRelease_eq fun honline =>
      releaseRequest_pressed (hrow honline)]
    simp only [sentReason, true_and]
    rfl
  | _ =>
    dsimp only
    rw [entryAfterLeave_of_ne (by decide), hself]
    simp only [slotAfterLeave, hqueue, ite_self]
    rfl

/-- The table's standings survive a channel that leaves its key state: only a contest timer stops (03, R50). -/
theorem leaveClaimSide_standing (reason : Reason) (c : Channel) (s : State) (d : Group) :
    standing (leaveClaimSide reason c s).table.entries[d] = standing s.table.entries[d] := by
  have hstopped : standing (stopContest s.chans[c].setup.group c s).table.entries[d]
      = standing s.table.entries[d] := by
    rw [stopContest_eq]
    dsimp only
    rw [set_get]
    split
    next hd =>
      subst hd
      unfold entryAfterLeave
      split
      · split <;> simp_all [standing]
      · rfl
    next => rfl
  unfold leaveClaimSide
  dsimp only
  split
  · split <;> simp
  · simpa using hstopped
  · simp
  · rfl

theorem leavesSeeding_keeps (u : State) : (leavesSeeding u).chans = u.chans
    ∧ (leavesSeeding u).tracker = u.tracker ∧ (leavesSeeding u).roster = u.roster
    ∧ (leavesSeeding u).cad = u.cad ∧ (leavesSeeding u).host = u.host := by
  unfold leavesSeeding
  split <;> exact ⟨rfl, rfl, rfl, rfl, rfl⟩

/-- Settles O11. -/
theorem liftIsDebouncedAndReleases : Obligations.LiftIsDebouncedAndReleases := by
  intro s c n b hreset hn hconv hbaseline hrail hseeds hside
  obtain ⟨t, ht, heq⟩ := exec_conversion hreset hn hconv
  have hnot (st : ChanState) (h : claimSide st = false) : s.chans[c].state ≠ st :=
    fun hst => by rw [hst, h] at hside; cases hside
  have hprocess := processCount_claimSide (st := s.tracker.settings) (hushed := s.tracker.hushed) (n := n)
    (r := countedChan s c n) (b := b) hside hbaseline
  have hcount : keyCount c n s = carryOut c (claimSideCount s.tracker.settings n b (countedChan s c n)) s := by
    rw [keyCount_of_rail (hnot _ rfl) (hnot _ rfl) hrail, hprocess]
  have hkept (r : Chan) (hr : r.state = s.chans[c].state)
      (hout : claimSideCount s.tracker.settings n b (countedChan s c n) = (r, .none)) :
      leavesSeeding (slotConversion (.channel c) n s)
        = evaluate (fun d => decide (d = s.chans[c].setup.group ∧ s.chans[c].state = .candidate
          ∧ ¬(s.queue.inFlight = some (.group s.chans[c].setup.group)
            ∧ s.queue.groups[s.chans[c].setup.group].frame = some (.claim c)))) (s.setChan c r) := by
    rw [hout] at hcount
    have hsame : (s.setChan c r).chans[c].state = s.chans[c].state := by rw [setChan_get_same, hr]
    rw [slotConversion, keyConversion_eq (u := s.setChan c r) hcount, leavesSeeding_evaluate]
    · exact seeding_of_setChan (hnot _ rfl) hseeds
    · intro d
      rw [callsEvaluation_iff, hsame]
      have hidle := hnot .idle rfl
      have hfaulted := hnot .faulted rfl
      simp only [hidle, hfaulted, or_self, and_false, or_false, decide_eq_true_eq, claimInFlight, groupInFlight,
        Bool.and_eq_false_iff, decide_eq_false_iff_not]
      grind
  refine ⟨t, ht, fun hover => heq.trans ?_, fun hbelow hmore => heq.trans ?_, fun hbelow hmet hrow => heq.trans ?_⟩
  · refine hkept _ ?_ ?_
    · rfl
    · have hover' : ¬ deltaOf b n < ((countedChan s c n).setup.releaseThreshold : Int) := hover
      simp only [claimSideCount, hover', if_false]
      rfl
  · refine hkept _ ?_ ?_
    · rfl
    · have hbelow' : deltaOf b n < ((countedChan s c n).setup.releaseThreshold : Int) := hbelow
      have hmore' : ¬ s.tracker.settings.liftDebounce ≤ (countedChan s c n).liftDebounce + 1 := hmore
      simp only [claimSideCount, hbelow', if_true, hmore', if_false]
      rfl
  · have hlifted : claimSideCount s.tracker.settings n b (countedChan s c n)
        = ({ countedChan s c n with delta := some ((b : Int) - n), liftDebounce := 0 }, .lifted) := by
      have hbelow' : deltaOf b n < ((countedChan s c n).setup.releaseThreshold : Int) := hbelow
      have hmet' : s.tracker.settings.liftDebounce ≤ (countedChan s c n).liftDebounce + 1 := hmet
      simp only [claimSideCount, hbelow', hmet', if_true]
      rfl
    rw [hlifted] at hcount
    have hleft : keyCount c n s = _ := hcount.trans (leaveClaimSide_setChan .withdrawn _ hrow)
    have hidle : (keyCount c n s).chans[c].state = .idle := by
      rw [hleft]
      exact congrArg Chan.state (setChan_get_same s c _)
    rw [slotConversion, keyConversion_eq (which := fun d => decide (d = s.chans[c].setup.group
      ∧ (s.chans[c].state = .candidate ∨ s.chans[c].state = .contending))) rfl, leavesSeeding_evaluate, hleft]
    · simp only [sentReason, and_true]
      rfl
    · rw [hleft]
      exact seeding_of_setChan (hnot _ rfl) hseeds
    · intro d
      rw [callsEvaluation_iff, hidle, decide_eq_true_eq]
      grind

/-- Settles O12. -/
theorem sixteenRailCountsFaultAChannel : Obligations.SixteenRailCountsFaultAChannel := by
  intro s c n hreset hrail hconv hoff hfaulted hrun
  have hn : n ≤ 4095 := by omega
  obtain ⟨t, ht, heq⟩ := exec_conversion hreset hn hconv
  have hcount : keyCount c n s = keyFault c n s := by
    have hlong : Config.railRun ≤ railAfter s.chans[c].rail n := by
      rw [railAfter, if_pos ((isRail_iff n).mpr hrail)]
      exact hrun
    unfold keyCount
    dsimp only
    split
    next h => exact absurd h hoff
    next h => exact absurd h hfaulted
    next => rw [if_pos hlong]
  have hchans (d : Channel) : (keyFault c n s).chans[d]
      = if c = d then toFaulted { s.chans[c] with count := some n } else s.chans[d] := by
    unfold keyFault
    rw [setChan_get]
    simp
  have hstate : (keyFault c n s).chans[c].state = .faulted := by rw [hchans, if_pos rfl]; rfl
  have hconverted : slotConversion (.channel c) n s = evaluate (fun d => decide (d = s.chans[c].setup.group
      ∧ (s.chans[c].state = .candidate ∨ s.chans[c].state = .contending))) (keyFault c n s) := by
    rw [slotConversion, keyConversion_eq hcount]
    intro d
    rw [callsEvaluation_iff, hstate, decide_eq_true_eq]
    have h : ChanState.faulted ≠ .candidate := by decide
    simp only [h, false_and, false_or, or_true, and_true]
    grind
  rw [hconverted] at heq
  have hjudged (d : Channel) (hd : (keyFault c n s).chans[d].state ≠ .candidate) (which : Group → Bool) :
      (evaluate which (keyFault c n s)).chans[d] = (keyFault c n s).chans[d] :=
    evaluate_chan_of_ne_candidate _ _ _ hd
  obtain ⟨hchansKept, htracker, hroster, hcad, hhost⟩ := leavesSeeding_keeps
    (evaluate (fun d => decide (d = s.chans[c].setup.group
      ∧ (s.chans[c].state = .candidate ∨ s.chans[c].state = .contending))) (keyFault c n s))
  refine ⟨t, ht, ?_, fun hother => ?_, fun hseeding => ?_, ?_, ?_, ?_, ?_, fun hrow => ?_⟩
  · have ht : t.chans = _ := (congrArg State.chans heq).trans hchansKept
    rw [ht, hjudged c (by rw [hstate]; decide), hchans, if_pos rfl]
    rfl
  · rw [leavesSeeding_of_seeding (fun h => absurd (by simpa [keyFault] using h) hother)] at heq
    exact ⟨(congrArg State.log heq).trans (by simp [keyFault, State.put]),
      (congrArg State.ctrl heq).trans (by simp [keyFault]), (congrArg State.link heq).trans (by simp [keyFault])⟩
  · have hctrl : (keyFault c n s).ctrl = s.ctrl := by simp [keyFault]
    have hoffline : (keyFault c n s).online = false := by
      rw [← Bool.not_eq_true, online_iff, hctrl, hseeding]
      decide
    rw [evaluate_offline _ _ hoffline] at heq
    have hnone : (∀ d : Channel, (keyFault c n s).chans[d].state ≠ .seeding)
        ↔ ∀ d : Channel, d ≠ c → s.chans[d].state ≠ .seeding := by
      refine forall_congr' fun d => ?_
      rw [hchans]
      by_cases hd : c = d
      · rw [if_pos hd]
        exact iff_of_true (by exact nofun) fun h => absurd hd.symm h
      · rw [if_neg hd]
        exact ⟨fun h _ => h, fun h => h (Ne.symm hd)⟩
    have ht := congrArg State.ctrl heq
    rw [show t.ctrl = _ from ht, ← hnone]
    unfold leavesSeeding
    rw [hctrl]
    split
    next h => exact iff_of_true rfl h.2
    next h => exact iff_of_false (by rw [hctrl, hseeding]; decide) fun hc => h ⟨hseeding, hc⟩
  · exact (congrArg State.tracker heq).trans (htracker.trans (by simp [keyFault]))
  · exact (congrArg State.roster heq).trans (hroster.trans (by simp [keyFault]))
  · exact (congrArg State.cad heq).trans (hcad.trans (by simp [keyFault]))
  · exact (congrArg State.host heq).trans (hhost.trans (by simp [keyFault]))
  · refine heq.trans (congrArg (fun u => leavesSeeding (evaluate _ u)) ?_)
    refine (leaveClaimSide_setChan (s := s.put (.channelFault s.number c)) .fault _ hrow).trans ?_
    rw [sentReason_of_ne (by decide)]
    rfl

/-! ### RESEED (10, R170) -/

theorem takeReseed_of_channel {s : State} {c : Channel} (h : s.host.argument.toNat = c.val) :
    takeReseed s = if s.isKey c = true ∧ s.chans[c].state ≠ .off then setResult .done (reseedChannel c s)
      else setResult .badArgument s := by
  obtain ⟨v, hv⟩ := c
  obtain rfl : s.host.argument.toNat = v := h
  unfold takeReseed
  rw [dif_pos hv]
  rfl

/-- A command's result is in the host's part alone. -/
theorem setResult_with_host {s u : State} {r : Result} (h : u.host = s.host) :
    { setResult r u with host := s.host } = u := by rw [← h]; rfl

theorem argument_toNat {s : State} {c : Channel} (h : s.host.argument = BitVec.ofNat 8 c.val) :
    s.host.argument.toNat = c.val := by
  have hc := c.isLt
  rw [h, BitVec.toNat_ofNat]
  omega

/-- Any argument that names no key channel, or one that is OFF. -/
theorem takeReseed_bad {s : State} (h : 16 ≤ s.host.argument.toNat ∨ ∃ c : Channel,
    s.host.argument = BitVec.ofNat 8 c.val ∧ (s.isKey c = false ∨ s.chans[c].state = .off)) :
    takeReseed s = setResult .badArgument s := by
  obtain hlarge | ⟨c, harg, hc⟩ := h
  · rw [takeReseed, dif_neg (by omega)]
  · rw [takeReseed_of_channel (argument_toNat harg), if_neg]
    rintro ⟨hkey, hstate⟩
    obtain hc | hc := hc
    · rw [hkey] at hc
      cases hc
    · exact hstate hc

/-- Settles O44. -/
theorem reseedSeedsOneKeyChannel : Obligations.ReseedSeedsOneKeyChannel := by
  intro s hreset
  refine ⟨fun c harg hkey hoff => ?_, fun hbad => ?_⟩
  · have hexec : exec .reseed s = .next (setResult .done (reseedChannel c s)) := by
      rw [exec_running hreset]
      have htaken : takeReseed s = _ := (takeReseed_of_channel (argument_toNat harg)).trans (if_pos ⟨hkey, hoff⟩)
      exact congrArg Host.Outcome.next htaken
    have hasked : (evaluate (fun d => decide (s.chans[c].state = .contending) && decide (d = s.chans[c].setup.group))
        ((leaveClaimSide .reseed c s).setChan c (reseededChan s.chans[c]))).chans[c] = reseededChan s.chans[c] := by
      rw [evaluate_chan_of_ne_candidate, setChan_get_same]
      rw [setChan_get_same]
      unfold reseededChan
      split
      · exact nofun
      · exact nofun
    have hseeded : reseededChan s.chans[c] = { s.chans[c] with
        state := .seeding, delta := none, deviation := none, touchDebounce := 0, liftDebounce := 0
        drift := 0, antiTouch := 0, seed := some (0, 0), holdTimer := none
        rail := if s.chans[c].state = .faulted then 0 else s.chans[c].rail
        inRange := if s.chans[c].state = .faulted then none else s.chans[c].inRange } := by
      unfold reseededChan
      split <;> rfl
    refine ⟨_, hexec, hasked.trans hseeded, ?_, ?_, ?_, ?_, ?_, ?_, ?_, ?_, fun d => ?_, fun hrow => ?_⟩
    · simp [setResult, reseedChannel]
    · simp [setResult, reseedChannel]
    · simp [setResult, reseedChannel]
    · simp [setResult, reseedChannel]
    · simp [setResult, reseedChannel]
    · simp [setResult, reseedChannel]
    · simp [setResult, reseedChannel]
    · simp [setResult, reseedChannel]
    · refine Eq.trans ?_ (leaveClaimSide_standing .reseed c s d)
      simp [setResult, reseedChannel]
    · rw [← hseeded]
      have hleft := leaveClaimSide_setChan .reseed (reseededChan s.chans[c]) hrow
      rw [sentReason_of_ne (by decide)] at hleft
      have hwhich : (fun d : Group => decide (s.chans[c].state = .contending) && decide (d = s.chans[c].setup.group))
          = fun d => decide (d = s.chans[c].setup.group ∧ s.chans[c].state = .contending) := by
        funext d
        rw [Bool.decide_and, Bool.and_comm]
      rw [← hleft, ← hwhich]
      exact setResult_with_host (u := reseedChannel c s) (by simp [reseedChannel])
  · rw [exec_running hreset]
    exact congrArg Host.Outcome.next (takeReseed_bad hbad)

end Sys2Proof.Machine
end

section
/-! PROOF. The reference record and hush (02, R34 to R38; 01, R17). -/

namespace Sys2Proof.Machine

/-! ### The CLAIMs withdrawn at HUSH-ON (02, R36) -/

section
variable {α : Type} {n : Nat}

/-- A bank whose records all stay. -/
theorem each_kept {f : Fin n → α → α} {v : Vector α n} (h : ∀ i, f i v[i] = v[i]) : each f v = v := by
  rw [each_congr (f' := fun _ a => a) h]
  simp [each]

/-- A bank in which one record alone changes. -/
theorem each_eq_set {f : Fin n → α → α} {v : Vector α n} {i : Fin n} (h : ∀ j, j ≠ i → f j v[j] = v[j]) :
    each f v = v.set i (f i v[i]) := by
  have hset := set_each (f := fun _ a => a) (f' := f) (v := v) rfl h
  rw [each_kept (f := fun _ a => a) fun _ => rfl] at hset
  exact hset.symm

end

section
variable {s : State} {g : Group} {c : Channel} {sl : GroupSlot}

/-- A slot that HUSH-ON has dealt with is as HUSH-ON leaves it. -/
theorem slotAfterHush_idem (s : State) (g : Group) (sl : GroupSlot) :
    slotAfterHush s g (slotAfterHush s g sl) = slotAfterHush s g sl := by
  obtain ⟨frame, followUp⟩ := sl
  rcases frame with _ | (d | d | ⟨d, r⟩) <;> cases followUp
  case some.claim.none =>
    by_cases hasked : s.ctrl.state = .online ∧ s.chans[d].state = .candidate ∧ s.chans[d].setup.group = g
        ∧ ¬(decide (s.queue.inFlight = some (.group g)) ∧ s.queue.withdrawnInFlight)
    · have hout : slotAfterHush s g ⟨some (.claim d), none⟩
          = slotAfterLeave .candidate (decide (s.queue.inFlight = some (.group g))) d .withdrawn
            ⟨some (.claim d), none⟩ := if_pos hasked
      rw [hout]
      by_cases hfly : s.queue.inFlight = some (.group g) <;> simp [slotAfterLeave, hfly, slotAfterHush]
    · have hout : slotAfterHush s g ⟨some (.claim d), none⟩ = ⟨some (.claim d), none⟩ := if_neg hasked
      rw [hout, hout]
  all_goals rfl

theorem slotAfterHush_of_not (h : ∀ d, sl.frame = some (.claim d) →
    ¬(s.ctrl.state = .online ∧ s.chans[d].state = .candidate ∧ s.chans[d].setup.group = g)) :
    slotAfterHush s g sl = sl := by
  obtain ⟨frame, followUp⟩ := sl
  rcases frame with _ | (d | d | ⟨d, r⟩) <;> cases followUp
  case some.claim.none => exact if_neg fun hc => h d rfl ⟨hc.1, hc.2.1, hc.2.2.1⟩
  all_goals rfl

/-- A slot without a follow-up and not withdrawn in flight, in ONLINE. -/
theorem slotAfterHush_of_clear (honline : s.ctrl.state = .online) (hclear : sl.followUp = none)
    (hmark : s.queue.inFlight = some (.group g) → s.queue.withdrawnInFlight = false) :
    slotAfterHush s g sl = match sl.frame with
      | some (.claim d) =>
        if s.chans[d].state = .candidate ∧ s.chans[d].setup.group = g then
          slotAfterLeave .candidate (decide (s.queue.inFlight = some (.group g))) d .withdrawn sl
        else sl
      | _ => sl := by
  obtain ⟨frame, followUp⟩ := sl
  obtain rfl : followUp = none := hclear
  have hnot : ¬(decide (s.queue.inFlight = some (.group g)) = true ∧ s.queue.withdrawnInFlight = true) := by
    rintro ⟨hfly, hw⟩
    rw [hmark (of_decide_eq_true hfly)] at hw
    cases hw
  rcases frame with _ | (d | d | ⟨d, r⟩)
  case some.claim =>
    simp only [slotAfterHush]
    exact if_congr (by simp only [honline, hnot, not_false_eq_true, and_true, true_and]) rfl rfl
  all_goals rfl

/-- What the candidate `c` asks for of a slot at HUSH-ON. -/
def hushSlot (s : State) (g : Group) (sl : GroupSlot) (c : Channel) : GroupSlot :=
  if sl.frame = some (.claim c) then slotAfterHush s g sl else sl

theorem foldl_hushSlot (s : State) (g : Group) (l : List Channel) (sl : GroupSlot) :
    l.foldl (hushSlot s g) sl = if ∃ c ∈ l, sl.frame = some (.claim c) then slotAfterHush s g sl else sl := by
  induction l generalizing sl with
  | nil => simp
  | cons c l ih =>
    rw [List.foldl_cons, ih]
    by_cases hc : sl.frame = some (.claim c)
    · have hout : hushSlot s g sl c = slotAfterHush s g sl := if_pos hc
      rw [hout, slotAfterHush_idem, ite_self, if_pos ⟨c, List.mem_cons_self, hc⟩]
    · have hout : hushSlot s g sl c = sl := if_neg hc
      rw [hout]
      simp only [List.mem_cons, exists_eq_or_imp, hc, false_or]

/-- Each candidate asks for its own slot, and together they ask for every one. -/
theorem foldl_hushSlot_all (s : State) (g : Group) (sl : GroupSlot) :
    (List.finRange 16).foldl (hushSlot s g) sl = slotAfterHush s g sl := by
  rw [foldl_hushSlot]
  split
  next => rfl
  next h =>
    exact (slotAfterHush_of_not fun d hd => absurd ⟨d, List.mem_finRange d, hd⟩ h).symm

/-- The station with the group slots `v`. -/
def withSlots (s : State) (v : Vector GroupSlot 8) : State := { s with queue := { s.queue with groups := v } }

/-- The RELEASE that a candidate whose CLAIM stands asks for at HUSH-ON. -/
theorem releaseRequest_hush {v : Vector GroupSlot 8} (hframe : v[g].frame = some (.claim c))
    (honline : s.ctrl.state = .online) (hcand : s.chans[c].state = .candidate) (hg : s.chans[c].setup.group = g) :
    releaseRequest g c .withdrawn { s.queue with groups := v }
      = setSlot { s.queue with groups := v } g (slotAfterHush s g v[g]) := by
  obtain ⟨frame, followUp, hslot⟩ : ∃ frame followUp, v[g] = ⟨frame, followUp⟩ := ⟨_, _, rfl⟩
  have hself : v.set g v[g] = v := Vector.set_getElem_self _
  unfold releaseRequest
  simp only [hslot] at hframe hself ⊢
  subst hframe
  simp only [Fin.getElem_fin] at hcand hg
  cases followUp <;> by_cases hfly : s.queue.inFlight = some (.group g) <;>
    by_cases hmark : s.queue.withdrawnInFlight = true <;>
    simp [slotAfterHush, slotAfterLeave, groupInFlight, honline, hcand, hg, hfly, hmark, setSlot, hself]

/-- The withdrawal of one candidate's CLAIM at HUSH-ON. -/
theorem hushRequest_eq (s : State) (v : Vector GroupSlot 8) (c : Channel) :
    (if s.chans[c].state = .candidate then leaveClaimSide .withdrawn c (withSlots s v) else withSlots s v)
      = withSlots s (each (fun g sl => hushSlot s g sl c) v) := by
  have hkept (h : ∀ g, hushSlot s g v[g] c = v[g]) :
      withSlots s (each (fun g sl => hushSlot s g sl c) v) = withSlots s v := by
    rw [each_kept (f := fun g sl => hushSlot s g sl c) h]
  have hother (g : Group) (h : ¬(s.ctrl.state = .online ∧ s.chans[c].state = .candidate
      ∧ s.chans[c].setup.group = g)) : hushSlot s g v[g] c = v[g] := by
    unfold hushSlot
    split
    next hframe =>
      refine slotAfterHush_of_not fun d hd => ?_
      rw [hframe] at hd
      cases hd
      exact h
    next => rfl
  by_cases hcand : s.chans[c].state = .candidate
  · rw [if_pos hcand]
    generalize hg : s.chans[c].setup.group = g at hother
    have hleave : leaveClaimSide .withdrawn c (withSlots s v) =
        if v[g].frame = some (.claim c) then (withSlots s v).requestRelease g c .withdrawn else withSlots s v := by
      have hstate : (withSlots s v).chans[c].state = .candidate := hcand
      simp only [leaveClaimSide, hstate]
      subst hg
      rfl
    rw [hleave]
    by_cases hframe : v[g].frame = some (.claim c)
    · rw [if_pos hframe]
      by_cases honline : s.ctrl.state = .online
      · have hslot : each (fun g sl => hushSlot s g sl c) v = v.set g (slotAfterHush s g v[g]) := by
          rw [each_eq_set (f := fun g sl => hushSlot s g sl c) (i := g) fun h hh =>
            hother h fun hc => hh hc.2.2.symm, hushSlot, if_pos hframe]
        rw [State.requestRelease, if_pos ((online_iff (withSlots s v)).mpr honline), hslot]
        exact congrArg (fun q => { s with queue := q }) (releaseRequest_hush hframe honline hcand hg)
      · rw [hkept fun h => hother h fun hc => honline hc.1, State.requestRelease,
          if_neg fun hc => honline ((online_iff (withSlots s v)).mp hc)]
    · rw [if_neg hframe]
      refine (hkept fun h => ?_).symm
      by_cases hh : h = g
      · subst hh
        exact if_neg hframe
      · exact hother h fun hc => hh hc.2.2.symm
  · rw [if_neg hcand]
    exact (hkept fun g => hother g fun h => hcand h.2.1).symm

/-- The frames asked for at HUSH-ON, as one equation. -/
theorem hushRequests_eq (s : State) : hushRequests s = withSlots s (each (slotAfterHush s) s.queue.groups) := by
  have hfold (l : List Channel) (v : Vector GroupSlot 8) :
      l.foldl (fun t c => if s.chans[c].state = .candidate then leaveClaimSide .withdrawn c t else t) (withSlots s v)
        = withSlots s (each (fun g sl => l.foldl (hushSlot s g) sl) v) := by
    induction l generalizing v with
    | nil => rw [each_kept fun _ => rfl]; rfl
    | cons c l ih => rw [List.foldl_cons, hushRequest_eq, ih, each_each]; rfl
  have hself : withSlots s s.queue.groups = s := rfl
  have hall := hfold (List.finRange 16) s.queue.groups
  rw [hself] at hall
  simp only [foldl_hushSlot_all] at hall
  exact hall

end

/-! ### The reference record's counts (02, R34 to R37) -/

section
variable {s : State} {c : Channel} {n b : Nat}

/-- A reference count that no rail run faults is processed by the record's state (01, R11, R17). -/
theorem refConversion_of_rail (hoff : s.chans[c].state ≠ .off) (hfaulted : s.chans[c].state ≠ .faulted)
    (hrail : railAfter s.chans[c].rail n < 16) : refConversion c n s =
      match s.chans[c].state, s.chans[c].baseline with
      | .seeding, _ => s.setChan c (refSeedCount n (countedChan s c n))
      | .idle, some b =>
        if s.tracker.hushed then refHushedCount c n b (countedChan s c n) s
        else refIdleCount c n b (countedChan s c n) s
      | _, _ => s.setChan c (countedChan s c n) := by
  have hrun : ¬ Config.railRun ≤ railAfter s.chans[c].rail n := Nat.not_le.mpr hrail
  unfold refConversion
  dsimp only
  split
  next h => exact absurd h hoff
  next h => exact absurd h hfaulted
  next => rw [if_neg hrun]; rfl

theorem refSeedCount_eq {sum k : Nat} {r : Chan} (hstate : r.state = .seeding) (hseed : r.seed = some (sum, k)) :
    refSeedCount n r = if k + 1 < 16 then { r with seed := some (sum + n, k + 1) }
      else { r with
        seed := none, state := .idle, baseline := some ((sum + n) / 16), delta := none
        deviation := some ((n - (sum + n) / 16) + ((sum + n) / 16 - n)), touchDebounce := 0
        liftDebounce := 0, antiTouch := 0, drift := 0 } := by
  unfold refSeedCount
  rw [seedCount_eq hseed]
  split
  next h => cases h
  next =>
    split
    next => simp only [hstate, reduceCtorEq, if_false]
    next => rfl

/-- HUSH-ON as an equation for the whole state (02, R35, R36). -/
theorem hushOn_eq (deviation : Nat) (s : State) : hushOn deviation s = { s with
    chans := each (fun _ r => hushedChan r) s.chans
    tracker := { s.tracker with hushed := true, settle := some 0 }
    queue := { s.queue with groups := each (slotAfterHush s) s.queue.groups }
    log := logPut s.log (.hushOn s.number deviation) } := by
  unfold hushOn
  dsimp only
  rw [hushRequests_eq]
  rfl

theorem hushedChan_eq (r : Chan) : hushedChan r =
    if r.state = .arming ∨ r.state = .candidate then
      { r with state := .idle, touchDebounce := 0, liftDebounce := 0, antiTouch := 0, holdTimer := none }
    else r := by
  unfold hushedChan
  split
  next h => rw [if_pos (.inl h)]; rfl
  next h => rw [if_pos (.inr h)]; rfl
  next h h' => rw [if_neg fun hc => hc.elim h h']

/-- The slots' frames at HUSH-ON go by the candidates alone. -/
theorem slotAfterHush_setChan {r : Chan} (hstate : r.state ≠ .candidate) (hs : s.chans[c].state ≠ .candidate)
    (g : Group) (sl : GroupSlot) : slotAfterHush (s.setChan c r) g sl = slotAfterHush s g sl := by
  have hsame (d : Channel) : ((s.setChan c r).chans[d].state = .candidate
      ∧ (s.setChan c r).chans[d].setup.group = g) ↔ s.chans[d].state = .candidate ∧ s.chans[d].setup.group = g := by
    rw [setChan_get]
    split
    next hd =>
      subst hd
      exact iff_of_false (fun h => hstate h.1) fun h => hs h.1
    next => rfl
  obtain ⟨frame, followUp⟩ := sl
  rcases frame with _ | (d | d | ⟨d, r⟩) <;> cases followUp
  case some.claim.none =>
    simp only [slotAfterHush]
    refine if_congr (and_congr Iff.rfl ?_) rfl rfl
    rw [← and_assoc, ← and_assoc, hsame d]
    rfl
  all_goals rfl

/-- A reference count in IDLE without hush that stays within the limit (02, R27, R35). -/
theorem refIdleCount_of_quiet {r : Chan} (hquiet : deviationOf b n ≤ s.tracker.settings.hushLimit)
    (hbaseline : r.baseline = some b) : refIdleCount c n b r s = s.setChan c
      (if b < n ∧ (s.tracker.settings.driftPeriod : Int)
          ≤ (if b < n then r.drift + 1 else if n < b then r.drift - 1 else r.drift) then
        { r with baseline := some (b + 1), drift := 0, deviation := some (deviationOf b n - 1) }
      else if n < b ∧ (if b < n then r.drift + 1 else if n < b then r.drift - 1 else r.drift)
          ≤ -(s.tracker.settings.driftPeriod : Int) then
        { r with baseline := some (b - 1), drift := 0, deviation := some (deviationOf b n - 1) }
      else { r with
        drift := if b < n then r.drift + 1 else if n < b then r.drift - 1 else r.drift
        deviation := some (deviationOf b n) }) := by
  unfold refIdleCount
  rw [if_neg (by omega), driftStep_eq]
  generalize (if b < n then r.drift + 1 else if n < b then r.drift - 1 else r.drift) = acc
  split
  next h =>
    have hstep : deviationOf (b + 1) n = deviationOf b n - 1 := by unfold deviationOf; omega
    dsimp only
    rw [hstep]
  next =>
    split
    next h =>
      have hstep : deviationOf (b - 1) n = deviationOf b n - 1 := by unfold deviationOf; omega
      dsimp only
      rw [hstep]
    next => rw [hbaseline]

/-- A reference count in IDLE while hushed (02, R37). -/
theorem refHushedCount_eq (c : Channel) (n b : Nat) (r : Chan) (s : State) : refHushedCount c n b r s =
    if s.tracker.settings.hushLimit / 2 < deviationOf b n then
      { s.setChan c { r with deviation := some (deviationOf b n) } with
        tracker := { s.tracker with settle := some 0 } }
    else if s.tracker.settle.getD 0 + 1 < 8 then
      { s.setChan c { r with deviation := some (deviationOf b n) } with
        tracker := { s.tracker with settle := some (s.tracker.settle.getD 0 + 1) } }
    else ({ s.setChan c { r with deviation := some (deviationOf b n) } with
      tracker := { s.tracker with hushed := false, settle := none } }).put
        (.hushOff s.number (some (deviationOf b n))) := by
  unfold refHushedCount settleAfter
  by_cases hover : s.tracker.settings.hushLimit / 2 < deviationOf b n
  · rw [if_pos hover, if_neg (Nat.not_le.mpr hover)]
    rfl
  · rw [if_neg hover, if_pos (Nat.not_lt.mp hover)]
    by_cases hmore : s.tracker.settle.getD 0 + 1 < 8
    · have hrun : ¬ Config.settleRun ≤ s.tracker.settle.getD 0 + 1 := Nat.not_le.mpr hmore
      rw [if_pos hmore]
      dsimp only
      rw [if_neg hrun]
      rfl
    · have hrun : Config.settleRun ≤ s.tracker.settle.getD 0 + 1 := Nat.not_lt.mp hmore
      rw [if_neg hmore]
      dsimp only
      rw [if_pos hrun]
      rfl

/-- The reference's fault (01, R17; 02, R38). -/
theorem refFault_eq (c : Channel) (n : Nat) (s : State) : refFault c n s = { s with
    chans := s.chans.set c (toFaulted { s.chans[c] with count := some n })
    tracker := if s.tracker.hushed then { s.tracker with hushed := false, settle := none } else s.tracker
    log := ([Event.channelFault s.number c]
      ++ (if s.tracker.hushed then [Event.hushOff s.number none] else [])).foldl logPut s.log } := by
  unfold refFault
  cases h : s.tracker.hushed <;> rfl

/-- A reference count over the limit, as an equation for the whole state (02, R35, R36). -/
theorem refIdleCount_of_loud {r : Chan} (hloud : s.tracker.settings.hushLimit < deviationOf b n)
    (hr : r.state = .idle) (hs : s.chans[c].state = .idle) : refIdleCount c n b r s = { s with
      chans := each (fun d record =>
        if d = c then { r with deviation := some (deviationOf b n) }
        else if record.state = .arming ∨ record.state = .candidate then
          { record with
            state := .idle, touchDebounce := 0, liftDebounce := 0, antiTouch := 0, holdTimer := none }
        else record) s.chans
      tracker := { s.tracker with hushed := true, settle := some 0 }
      queue := { s.queue with groups := each (slotAfterHush s) s.queue.groups }
      log := logPut s.log (.hushOn s.number (deviationOf b n)) } := by
  have hslots : slotAfterHush (s.setChan c { r with deviation := some (deviationOf b n) }) = slotAfterHush s :=
    funext fun g => funext fun sl =>
      slotAfterHush_setChan (r := { r with deviation := some (deviationOf b n) })
        (ne_of_eq_of_ne hr (by decide)) (by rw [hs]; decide) g sl
  have hchans : each (fun _ record => hushedChan record)
      (s.chans.set c { r with deviation := some (deviationOf b n) }) = each (fun d record =>
        if d = c then { r with deviation := some (deviationOf b n) }
        else if record.state = .arming ∨ record.state = .candidate then
          { record with
            state := .idle, touchDebounce := 0, liftDebounce := 0, antiTouch := 0, holdTimer := none }
        else record) s.chans := by
    refine Vector.ext fun k hk => ?_
    rw [each_getElem, each_getElem, ← hushedChan_eq]
    have hget := set_get s.chans c ⟨k, hk⟩ { r with deviation := some (deviationOf b n) }
    by_cases hc : (⟨k, hk⟩ : Channel) = c
    · rw [if_pos hc]
      rw [if_pos hc.symm] at hget
      refine (congrArg hushedChan hget).trans ?_
      rw [hushedChan_eq, if_neg]
      rintro (h | h)
      · exact absurd (hr.symm.trans h) (by decide)
      · exact absurd (hr.symm.trans h) (by decide)
    · rw [if_neg hc]
      rw [if_neg (Ne.symm hc)] at hget
      exact congrArg hushedChan hget
  rw [refIdleCount, if_pos hloud, hushOn_eq, hslots, ← hchans]
  rfl

end

/-- Settles O14. -/
theorem referenceHushesAndSettles : Obligations.ReferenceHushesAndSettles := by
  intro s c n hreset hn hconv href
  have hcompleted : ∃ t, exec (.conversionCompletion n) s = .next t
      ∧ { t with front := s.front } = leavesSeeding (refConversion c n s) := by
    have h := exec_conversion hreset hn hconv
    simpa only [slotConversion, href] using h
  obtain ⟨t, ht, heq⟩ := hcompleted
  refine ⟨fun sum k hstate hseed hrail => ?_, fun b hstate hbaseline hrail hseeds => ?_,
    fun hrail hoff hfaulted hrun => ?_, fun k hstate hinRange hseeds => ?_⟩
  · refine ⟨t, ht, heq.trans (congrArg leavesSeeding ?_)⟩
    have hcount : refConversion c n s = s.setChan c (refSeedCount n (countedChan s c n)) := by
      rw [refConversion_of_rail (by rw [hstate]; decide) (by rw [hstate]; decide) hrail]
      simp only [hstate]
    rw [hcount, refSeedCount_eq (r := countedChan s c n) (sum := sum) (k := k) hstate hseed]
    rfl
  · have hidle : refConversion c n s =
        if s.tracker.hushed then refHushedCount c n b (countedChan s c n) s
        else refIdleCount c n b (countedChan s c n) s := by
      rw [refConversion_of_rail (by rw [hstate]; decide) (by rw [hstate]; decide) hrail]
      simp only [hstate, hbaseline]
    refine ⟨t, ht, fun hquiet hlow => heq.trans ?_, fun hquiet hloud => ?_, fun hhushed => heq.trans ?_⟩
    · rw [hidle, hquiet, if_neg (by decide), refIdleCount_of_quiet (r := countedChan s c n) hlow hbaseline,
        leavesSeeding_of_seeding]
      · refine congrArg (s.setChan c) ?_
        rfl
      · exact seeding_of_setChan (by rw [hstate]; decide) hseeds
    · have hwhole := heq
      rw [hidle, hquiet, if_neg (by decide), refIdleCount_of_loud (r := countedChan s c n) hloud hstate hstate,
        leavesSeeding_of_seeding] at hwhole
      · have field {β : Type} (f : State → β) := congrArg f hwhole
        have hchan (d : Channel) := field fun u => u.chans[d]
        have hslot (g : Group) := field fun u => u.queue.groups[g]
        simp only [each_get] at hchan hslot
        refine ⟨field State.tracker, field State.log, (hchan c).trans (if_pos rfl),
          fun d hd => (hchan d).trans (if_neg hd), fun g => field fun u => u.table.entries[g], fun hnone => ?_,
          fun g honline hclear hmark => (hslot g).trans (slotAfterHush_of_clear honline hclear hmark),
          field fun u => u.queue.recal, field fun u => u.queue.pulse, field fun u => u.queue.inFlight,
          field State.ctrl, field State.link, field State.roster, field State.cad, field State.host, hwhole⟩
        refine (field State.queue).trans ?_
        dsimp only
        rw [each_kept fun g => slotAfterHush_of_not fun d _ h => hnone d h.2.1]
      · intro h
        obtain ⟨d, hd⟩ := hseeds h
        have hdc : d ≠ c := by
          rintro rfl
          rw [hstate] at hd
          cases hd
        refine ⟨d, ?_⟩
        dsimp only
        rw [each_get, if_neg hdc, if_neg]
        · exact hd
        · rw [hd]
          decide
    · rw [hidle, hhushed, if_pos rfl, refHushedCount_eq, leavesSeeding_of_seeding]
      · rfl
      · have h {r : Chan} := seeding_of_setChan (r := r) (s := s) (c := c) (by rw [hstate]; decide) hseeds
        split_ifs
        · exact h
        · exact h
        · exact h
  · refine ⟨t, ht, heq.trans (congrArg leavesSeeding ?_)⟩
    have hcount : refConversion c n s = refFault c n s := by
      have hlong : Config.railRun ≤ railAfter s.chans[c].rail n := by
        rw [railAfter, if_pos ((isRail_iff n).mpr hrail)]
        exact hrun
      unfold refConversion
      dsimp only
      split
      next h => exact absurd h hoff
      next h => exact absurd h hfaulted
      next => rw [if_pos hlong]
    rw [hcount, refFault_eq]
    rfl
  · refine ⟨t, ht, heq.trans ?_⟩
    have hcount : refConversion c n s = faultedCount c n s := by simp only [refConversion, hstate]
    rw [hcount, leavesSeeding_of_seeding, faultedCount_eq hinRange]
    rw [faultedCount_eq hinRange]
    have h {r : Chan} := seeding_of_setChan (r := r) (s := s) (c := c) (by rw [hstate]; decide) hseeds
    split_ifs
    · exact h
    · exact h
    · exact h

end Sys2Proof.Machine
end

section
/-! PROOF. The scan goes on after every conversion, whatever the record made of the count (01, R2 to R5). -/

namespace Sys2Proof.Machine

/-! ### A conversion keeps every record's setup values (02, R41) -/

theorem seedCount_setup (paused : Bool) (n : Nat) (r : Chan) : (seedCount paused n r).setup = r.setup := by
  unfold seedCount
  dsimp only
  split_ifs <;> rfl

theorem trackIdle_setup (period b n : Nat) (r : Chan) : (trackIdle period b n r).setup = r.setup := by
  unfold trackIdle
  dsimp only
  split_ifs <;> rfl

theorem idleCount_setup (st : Settings) (hushed : Bool) (n b : Nat) (r : Chan) :
    (idleCount st hushed n b r).1.setup = r.setup := by
  unfold idleCount
  dsimp only
  split_ifs
  · rfl
  · rfl
  · rfl
  · exact trackIdle_setup st.driftPeriod b n r

theorem armingCount_setup (st : Settings) (n b : Nat) (r : Chan) : (armingCount st n b r).1.setup = r.setup := by
  unfold armingCount
  dsimp only
  split_ifs <;> rfl

theorem claimSideCount_setup (st : Settings) (n b : Nat) (r : Chan) :
    (claimSideCount st n b r).1.setup = r.setup := by
  unfold claimSideCount
  dsimp only
  split_ifs <;> rfl

theorem processCount_setup (st : Settings) (hushed : Bool) (n : Nat) (r : Chan) :
    (processCount st hushed n r).1.setup = r.setup := by
  unfold processCount
  split
  · exact seedCount_setup hushed n r
  · exact idleCount_setup st hushed n _ r
  · exact armingCount_setup st n _ r
  · exact claimSideCount_setup st n _ r
  · exact claimSideCount_setup st n _ r
  · exact claimSideCount_setup st n _ r
  · exact claimSideCount_setup st n _ r
  · rfl

/-! ### What a count can do, case by case (01, R11 to R17; 02, R19, R34) -/

/-- The state after a count of key channel `c`. -/
inductive KeyCounted (c : Channel) (n : Nat) (s : State) : State → Prop
  | off (h : s.chans[c].state = .off) : KeyCounted c n s (s.setChan c { s.chans[c] with count := some n })
  | faulted (h : s.chans[c].state = .faulted) : KeyCounted c n s (faultedCount c n s)
  | faults (hoff : s.chans[c].state ≠ .off) (hfaulted : s.chans[c].state ≠ .faulted) :
      KeyCounted c n s (keyFault c n s)
  | counts (hoff : s.chans[c].state ≠ .off) (hfaulted : s.chans[c].state ≠ .faulted)
      (hrail : railAfter s.chans[c].rail n < 16) : KeyCounted c n s
        (carryOut c (processCount s.tracker.settings s.tracker.hushed n (countedChan s c n)) s)

theorem keyCount_cases (c : Channel) (n : Nat) (s : State) : KeyCounted c n s (keyCount c n s) := by
  by_cases hoff : s.chans[c].state = .off
  · have heq : keyCount c n s = s.setChan c { s.chans[c] with count := some n } := by simp only [keyCount, hoff]
    exact heq ▸ .off hoff
  · by_cases hfaulted : s.chans[c].state = .faulted
    · have heq : keyCount c n s = faultedCount c n s := by simp only [keyCount, hfaulted]
      exact heq ▸ .faulted hfaulted
    · by_cases hrail : railAfter s.chans[c].rail n < 16
      · exact keyCount_of_rail hoff hfaulted hrail ▸ .counts hoff hfaulted hrail
      · have hlong : Config.railRun ≤ railAfter s.chans[c].rail n := Nat.not_lt.mp hrail
        have heq : keyCount c n s = keyFault c n s := by
          unfold keyCount
          dsimp only
          split
          next h => exact absurd h hoff
          next h => exact absurd h hfaulted
          next => rw [if_pos hlong]
        exact heq ▸ .faults hoff hfaulted

/-- The state after a count of the reference, whose record is that of host `c`. -/
inductive RefCounted (c : Channel) (n : Nat) (s : State) : State → Prop
  | off (h : s.chans[c].state = .off) : RefCounted c n s (s.setChan c { s.chans[c] with count := some n })
  | faulted (h : s.chans[c].state = .faulted) : RefCounted c n s (faultedCount c n s)
  | faults (hoff : s.chans[c].state ≠ .off) (hfaulted : s.chans[c].state ≠ .faulted) :
      RefCounted c n s (refFault c n s)
  | seeds (h : s.chans[c].state = .seeding) (hrail : railAfter s.chans[c].rail n < 16) :
      RefCounted c n s (s.setChan c (refSeedCount n (countedChan s c n)))
  | hushed {b : Nat} (h : s.chans[c].state = .idle) (hbaseline : s.chans[c].baseline = some b)
      (hhushed : s.tracker.hushed = true) (hrail : railAfter s.chans[c].rail n < 16) :
      RefCounted c n s (refHushedCount c n b (countedChan s c n) s)
  | quiet {b : Nat} (h : s.chans[c].state = .idle) (hbaseline : s.chans[c].baseline = some b)
      (hhushed : s.tracker.hushed = false) (hrail : railAfter s.chans[c].rail n < 16) :
      RefCounted c n s (refIdleCount c n b (countedChan s c n) s)
  | other (hoff : s.chans[c].state ≠ .off) (hfaulted : s.chans[c].state ≠ .faulted)
      (hseeding : s.chans[c].state ≠ .seeding) (hrail : railAfter s.chans[c].rail n < 16) :
      RefCounted c n s (s.setChan c (countedChan s c n))

theorem refConversion_cases (c : Channel) (n : Nat) (s : State) : RefCounted c n s (refConversion c n s) := by
  by_cases hoff : s.chans[c].state = .off
  · have heq : refConversion c n s = s.setChan c { s.chans[c] with count := some n } := by
      simp only [refConversion, hoff]
    exact heq ▸ .off hoff
  · by_cases hfaulted : s.chans[c].state = .faulted
    · have heq : refConversion c n s = faultedCount c n s := by simp only [refConversion, hfaulted]
      exact heq ▸ .faulted hfaulted
    · by_cases hrail : railAfter s.chans[c].rail n < 16
      · rw [refConversion_of_rail hoff hfaulted hrail]
        split
        next h => exact .seeds h hrail
        next h hbaseline =>
          cases hhushed : s.tracker.hushed with
          | true => exact .hushed h hbaseline hhushed hrail
          | false => exact .quiet h hbaseline hhushed hrail
        next hseeding _ => exact .other hoff hfaulted (fun h => hseeding h) hrail
      · have hlong : Config.railRun ≤ railAfter s.chans[c].rail n := Nat.not_lt.mp hrail
        have heq : refConversion c n s = refFault c n s := by
          unfold refConversion
          dsimp only
          split
          next h => exact absurd h hoff
          next h => exact absurd h hfaulted
          next => rw [if_pos hlong]
        exact heq ▸ .faults hoff hfaulted

section
variable {s u : State} {c d : Channel} {n : Nat}

theorem setChan_setup {r : Chan} (h : r.setup = s.chans[c].setup) (d : Channel) :
    (s.setChan c r).chans[d].setup = s.chans[d].setup := by
  rw [setChan_get]
  split
  next hd => subst hd; exact h
  next => rfl

theorem evaluate_setup (which : Group → Bool) (s : State) (d : Channel) :
    (evaluate which s).chans[d].setup = s.chans[d].setup := by
  unfold evaluate
  split
  · rw [each_get]
    split
    · unfold evaluatedChan
      split <;> rfl
    · rfl
  · rfl

theorem carryOut_setup {out : Chan × Signal} (h : out.1.setup = s.chans[c].setup) (d : Channel) :
    (carryOut c out s).chans[d].setup = s.chans[d].setup := by
  have hset := setChan_setup (c := c) h d
  unfold carryOut
  split
  · exact hset
  · rw [activity_true_eq]
    exact hset
  · rw [activity_true_eq]
    exact hset
  · have hleft : (leaveClaimSide .withdrawn c s).chans = s.chans := by simp
    rw [setChan_setup (by rw [hleft]; exact h), hleft]

theorem faultedCount_setup (c : Channel) (n : Nat) (s : State) (d : Channel) :
    (faultedCount c n s).chans[d].setup = s.chans[d].setup := by
  have hset {r : Chan} (hr : r.setup = s.chans[c].setup) := setChan_setup (c := c) hr d
  unfold faultedCount
  dsimp only
  split
  · exact hset (r := faultedToSeeding { s.chans[c] with count := some n }) rfl
  · exact hset rfl

theorem keyFault_setup (c : Channel) (n : Nat) (s : State) (d : Channel) :
    (keyFault c n s).chans[d].setup = s.chans[d].setup := by
  have hleft : (leaveClaimSide .fault c (s.put (.channelFault s.number c))).chans = s.chans := by simp
  unfold keyFault
  dsimp only
  generalize leaveClaimSide .fault c (s.put (.channelFault s.number c)) = u at hleft ⊢
  have hr : (toFaulted { s.chans[c] with count := some n }).setup = u.chans[c].setup := by rw [hleft]; rfl
  rw [setChan_setup hr, hleft]

theorem KeyCounted.setup (h : KeyCounted c n s u) (d : Channel) : u.chans[d].setup = s.chans[d].setup := by
  have hset {r : Chan} (hr : r.setup = s.chans[c].setup) := setChan_setup (c := c) hr d
  cases h with
  | off => exact hset rfl
  | faulted => exact faultedCount_setup c n s d
  | faults => exact keyFault_setup c n s d
  | counts =>
    refine carryOut_setup (Eq.trans ?_ (show (countedChan s c n).setup = s.chans[c].setup from rfl)) d
    exact processCount_setup s.tracker.settings s.tracker.hushed n (countedChan s c n)

theorem hushOn_setup (deviation : Nat) (s : State) (d : Channel) :
    (hushOn deviation s).chans[d].setup = s.chans[d].setup := by
  rw [hushOn_eq]
  dsimp only
  rw [each_get, hushedChan_eq]
  split <;> rfl

theorem refSeedCount_setup (n : Nat) (r : Chan) : (refSeedCount n r).setup = r.setup := by
  unfold refSeedCount
  dsimp only
  split <;> exact seedCount_setup false n r

theorem RefCounted.setup (h : RefCounted c n s u) (d : Channel) : u.chans[d].setup = s.chans[d].setup := by
  have hset {r : Chan} (hr : r.setup = s.chans[c].setup) := setChan_setup (c := c) hr d
  cases h with
  | off => exact hset rfl
  | faulted => exact faultedCount_setup c n s d
  | faults => rw [refFault_eq]; exact hset rfl
  | seeds => exact hset (refSeedCount_setup n _)
  | hushed =>
    rw [refHushedCount_eq]
    split_ifs
    · exact hset rfl
    · exact hset rfl
    · exact hset rfl
  | quiet =>
    unfold refIdleCount
    split
    · rw [hushOn_setup]
      exact hset rfl
    · exact hset rfl
  | other => exact hset rfl

theorem slotConversion_setup (slot : Slot) (n : Nat) (s : State) (d : Channel) :
    (slotConversion slot n s).chans[d].setup = s.chans[d].setup := by
  unfold slotConversion
  split
  next c =>
    rw [keyConversion, evaluate_setup]
    exact (keyCount_cases c n s).setup d
  next =>
    split
    · exact (refConversion_cases _ n s).setup d
    · rfl

end

/-! ### The scan list (01, R3) -/

theorem nextSlot_append {slot next : Slot} {before after : List Slot} (h : slot ∉ before) :
    nextSlot (before ++ slot :: next :: after) slot = some next := by
  induction before with
  | nil => rw [List.nil_append, nextSlot, if_pos rfl]
  | cons a rest ih =>
    obtain ⟨ha, hrest⟩ := not_or.mp (mt List.mem_cons.mpr h)
    cases rest with
    | nil => rw [List.cons_append, List.nil_append, nextSlot, if_neg (Ne.symm ha), nextSlot, if_pos rfl]
    | cons b rest => exact (if_neg (Ne.symm ha)).trans (ih hrest)

theorem nextSlot_last {slot : Slot} {before : List Slot} (h : slot ∉ before) :
    nextSlot (before ++ [slot]) slot = none := by
  induction before with
  | nil => rfl
  | cons a rest ih =>
    obtain ⟨ha, hrest⟩ := not_or.mp (mt List.mem_cons.mpr h)
    cases rest with
    | nil => exact (if_neg (Ne.symm ha)).trans rfl
    | cons b rest => exact (if_neg (Ne.symm ha)).trans (ih hrest)

theorem faultedCount_tracker (c : Channel) (n : Nat) (s : State) : (faultedCount c n s).tracker = s.tracker := by
  unfold faultedCount
  dsimp only
  split <;> rfl

theorem RefCounted.settings {s u : State} {c : Channel} {n : Nat} (h : RefCounted c n s u) :
    u.tracker.settings = s.tracker.settings := by
  cases h with
  | off | seeds | other => rfl
  | faulted => rw [faultedCount_tracker]
  | faults =>
    rw [refFault_eq]
    dsimp only
    split <;> rfl
  | hushed =>
    rw [refHushedCount_eq]
    split_ifs <;> rfl
  | quiet =>
    unfold refIdleCount
    split
    · rw [hushOn_eq]
      rfl
    · rfl

theorem slotConversion_front (slot : Slot) (n : Nat) (s : State) : (slotConversion slot n s).front = s.front := by
  simp

theorem slotConversion_settings (slot : Slot) (n : Nat) (s : State) :
    (slotConversion slot n s).tracker.settings = s.tracker.settings := by
  unfold slotConversion
  split
  · simp
  · split
    · exact (refConversion_cases _ n s).settings
    · rfl

/-- What the scan's next conversion goes by after a conversion. -/
theorem slotStep_converted (slot next : Slot) (n : Nat) (s : State) :
    slotStep (leavesSeeding (slotConversion slot n s)) next = slotStep s next := by
  obtain ⟨hchans, htracker, -⟩ := leavesSeeding_keeps (slotConversion slot n s)
  unfold slotStep
  rw [htracker, slotConversion_settings, hchans]
  split
  · rw [slotConversion_setup]
  · split
    · rw [slotConversion_setup]
    · rfl

/-- Settles O5. -/
theorem scanProceedsAfterEachConversion : Obligations.ScanProceedsAfterEachConversion := by
  intro s n slot hreset hn
  have hn' : n ≤ Config.maxCount := hn
  refine ⟨fun rem hconv hrem => ?_, fun before next after hconv hfirst hlist => ?_,
    fun before hconv hfirst hlist => ?_⟩
  · rw [exec_running hreset]
    obtain ⟨k, rfl⟩ : ∃ k, rem = k + 1 := ⟨rem - 1, by omega⟩
    simp only [eventEffect, completeConversion, hconv]
  · have hnext : nextSlot (leavesSeeding (slotConversion slot n s)).front.scanList slot = some next := by
      rw [leavesSeeding_front, slotConversion_front, hlist]
      exact nextSlot_append hfirst
    have hexec : eventEffect (.conversionCompletion n) s
        = beginConversion next (leavesSeeding (slotConversion slot n s)) := by
      simp only [eventEffect, completeConversion, hconv, hn', if_true, seedingReport_eq, scanProceeds, hnext]
    refine ⟨_, exec_running hreset _, ?_⟩
    rw [hexec]
    unfold beginConversion
    dsimp only
    rw [conversionUs, slotStep_converted, leavesSeeding_front, slotConversion_front]
    rfl
  · have hnext : nextSlot (leavesSeeding (slotConversion slot n s)).front.scanList slot = none := by
      rw [leavesSeeding_front, slotConversion_front, hlist]
      exact nextSlot_last hfirst
    have hexec : eventEffect (.conversionCompletion n) s
        = endScan (leavesSeeding (slotConversion slot n s)) := by
      simp only [eventEffect, completeConversion, hconv, hn', if_true, seedingReport_eq, scanProceeds, hnext]
    have hsettings : (leavesSeeding (slotConversion slot n s)).tracker.settings = s.tracker.settings := by
      rw [(leavesSeeding_keeps _).2.1, slotConversion_settings]
    have hfront : (leavesSeeding (slotConversion slot n s)).front = s.front := by
      rw [leavesSeeding_front, slotConversion_front]
    refine ⟨_, exec_running hreset _, ?_⟩
    rw [hexec]
    generalize leavesSeeding (slotConversion slot n s) = u at hsettings hfront ⊢
    rw [← hsettings, ← hfront]
    rfl

end Sys2Proof.Machine
end

section
/-! PROOF. Validation of the setup block (08, R139; 11, R179, R180): the first of the checks that fails. -/

namespace Sys2Proof.Machine

/-! ### The first failing check of a list -/

section
variable {l : List (Nat × Bool)}

/-- The offset of the first check that fails. -/
def firstFailing (l : List (Nat × Bool)) : Option Nat := (l.find? fun p => !p.2).map Prod.fst

theorem firstFailing_cons (o : Nat) (ok : Bool) (l : List (Nat × Bool)) :
    firstFailing ((o, ok) :: l) = if ok then firstFailing l else some o := by
  cases ok <;> rfl

theorem firstFailing_eq_none : firstFailing l = none ↔ ∀ p ∈ l, p.2 = true := by
  simp [firstFailing]

/-- With the offsets ascending it is the least. -/
theorem firstFailing_eq_some (h : (l.map Prod.fst).Pairwise (· < ·)) (o : Nat) :
    firstFailing l = some o ↔ (o, false) ∈ l ∧ ∀ o', (o', false) ∈ l → o ≤ o' := by
  induction l with
  | nil => simp [firstFailing]
  | cons p l ih =>
    obtain ⟨a, ok⟩ := p
    rw [List.map_cons, List.pairwise_cons] at h
    obtain ⟨hfirst, hrest⟩ := h
    rw [firstFailing_cons]
    cases ok with
    | true => simpa using ih hrest
    | false =>
      have hlater (o' : Nat) (ho' : (o', false) ∈ l) : a < o' := hfirst o' (List.mem_map_of_mem ho')
      simp only [Bool.false_eq_true, if_false, Option.some.injEq, List.mem_cons, Prod.mk.injEq, and_true]
      constructor
      · rintro rfl
        refine ⟨.inl rfl, ?_⟩
        rintro o' (rfl | ho')
        · exact le_refl _
        · exact (hlater o' ho').le
      · rintro ⟨rfl | ho, hleast⟩
        · rfl
        · exact absurd (hleast a (.inl rfl)) (Nat.not_le.mpr (hlater o ho))

end

theorem setupChecks_ascending (b : SetupBlock) : ((setupChecks b).map Prod.fst).Pairwise (· < ·) := by
  have hoffsets : (setupChecks b).map Prod.fst = List.range 16 ++ (List.range 16).map (fun c => 0x10 + 2 * c)
      ++ [0x30, 0x31, 0x32, 0x33, 0x34, 0x35, 0x36, 0x37, 0x38, 0x39, 0x3A] := by
    simp [setupChecks, Function.comp_def]
  rw [hoffsets]
  decide

/-- Settles O40. -/
theorem validationFindsTheFirstBadSetting : Obligations.ValidationFindsTheFirstBadSetting := by
  intro b threshold bad
  have hfirst : firstBadOffset b = firstFailing (setupChecks b) := rfl
  have hbad (o : Nat) : (o, false) ∈ setupChecks b ↔ bad o := by
    have hconfig : (∃ c < 16, c = o ∧ 7 < groupField (setupAt b c)) ↔ o < 16 ∧ 7 < setupAt b o / 8 % 16 := by
      constructor
      · rintro ⟨c, hc, rfl, h⟩
        exact ⟨hc, h⟩
      · rintro ⟨hc, h⟩
        exact ⟨o, hc, rfl, h⟩
    have hthreshold : (∃ c < 16, 16 + 2 * c = o ∧ (thresholdOf b c < 8 ∨ 1023 < thresholdOf b c))
        ↔ ∃ c : Fin 16, o = 16 + 2 * c.val ∧ (threshold c.val < 8 ∨ 1023 < threshold c.val) := by
      constructor
      · rintro ⟨c, hc, rfl, h⟩
        exact ⟨⟨c, hc⟩, rfl, h⟩
      · rintro ⟨c, rfl, h⟩
        exact ⟨c.val, c.isLt, rfl, h⟩
    simp only [setupChecks, List.mem_append, List.mem_map, List.mem_range, Prod.mk.injEq, List.mem_cons,
      List.not_mem_nil, or_false, hconfig, hthreshold, or_assoc, eq_comm (a := false), Bool.and_eq_false_iff,
      Bool.or_eq_false_iff, decide_eq_false_iff_not, Nat.not_le, Nat.lt_one_iff]
    rfl
  refine ⟨?_, fun o => ?_⟩
  · rw [hfirst, firstFailing_eq_none]
    have hconfig : (∀ c < 16, groupField (setupAt b c) ≤ 7) ↔ ∀ c : Fin 16, setupAt b c / 8 % 16 ≤ 7 :=
      ⟨fun h c => h c.val c.isLt, fun h c hc => h ⟨c, hc⟩⟩
    have hthreshold : (∀ c < 16, 8 ≤ thresholdOf b c ∧ thresholdOf b c ≤ 1023)
        ↔ ∀ c : Fin 16, 8 ≤ threshold c ∧ threshold c ≤ 1023 :=
      ⟨fun h c => h c.val c.isLt, fun h c hc => h ⟨c, hc⟩⟩
    simp only [setupChecks, List.forall_mem_append, List.forall_mem_map, List.mem_range, hconfig, hthreshold,
      List.forall_mem_cons, List.not_mem_nil, false_implies, forall_const, Bool.and_eq_true, Bool.or_eq_true,
        decide_eq_true_eq, and_assoc,
      and_true]
  · rw [hfirst, firstFailing_eq_some (setupChecks_ascending b)]
    simp only [hbad]

end Sys2Proof.Machine
end

section
/-! PROOF. A full reset leaves every block coherent (08, R136, R141). -/

namespace Sys2Proof.Machine

section
variable (straps : Straps)

theorem reset_chans (c : Channel) :
    (State.resetWith straps).chans[c] = offChan (channelSetupOf defaultSetupBlock c) := by
  show (Vector.ofFn fun c : Channel => offChan (channelSetupOf defaultSetupBlock c))[c] = _
  simp

theorem reset_roster (p : Station) : (State.resetWith straps).roster[p] = absentEntry := by
  show (Vector.replicate 16 absentEntry)[p] = _
  simp

theorem reset_entries (g : Group) : (State.resetWith straps).table.entries[g] = .free := by
  show (resetTable).entries[g] = _
  simp [resetTable]

theorem logInv_reset : LogInv (State.resetWith straps).log := by
  show LogInv resetLog
  refine ⟨by decide, fun i h => absurd h (Nat.not_lt_zero i), by decide, by decide⟩

theorem frontInv_reset : FrontInv (State.resetWith straps) := by
  refine ⟨rfl, iff_of_false nofun nofun, iff_of_false nofun nofun, rfl, rfl, fun c hc => ?_, fun h => ?_⟩
  · exact absurd hc List.not_mem_nil
  · exact absurd h List.not_mem_nil

/-- A record that is OFF is coherent under any settings. -/
theorem chanInv_offChan (st : Settings) (isRef : Bool) (setup : ChannelSetup) : ChanInv st isRef (offChan setup) := by
  simp [ChanInv, offChan, Config.railRun, Config.antiTouchRun]

theorem channelInv_reset : ChannelInv (State.resetWith straps) := by
  constructor
  · intro c
    rw [reset_chans]
    exact chanInv_offChan _ _ _
  · intro c h
    rw [reset_chans] at h
    obtain h | h := h <;> cases h

theorem stationInv_reset : StationInv (State.resetWith straps) := by
  refine ⟨iff_of_true rfl rfl, iff_of_false nofun nofun, iff_of_false nofun nofun, fun _ => rfl, nofun,
    iff_of_true rfl rfl, nofun, nofun, nofun, rfl, show 0 < Config.failureRun by decide, nofun,
    fun _ => ⟨rfl, rfl, fun c => ?_⟩⟩
  rw [reset_chans]
  exact ⟨nofun, nofun⟩

theorem queueInv_reset : QueueInv (State.resetWith straps) := by
  refine ⟨rfl, rfl, fun g h => ?_, nofun, nofun⟩
  have hslot : (State.resetWith straps).queue.groups[g] = emptySlot := by
    show (Vector.replicate 8 emptySlot)[g] = _
    simp
  rw [hslot] at h
  cases h

theorem panelInv_reset : PanelInv (State.resetWith straps) := by
  refine ⟨?_, ?_, fun p _ => ?_, fun p h => ?_, fun _ => ⟨reset_roster straps, reset_entries straps⟩, fun g => ?_,
    fun g => ?_⟩
  · rw [reset_roster]
    exact iff_of_false nofun nofun
  · rw [reset_roster]
    rfl
  · rw [reset_roster]
    rfl
  · rw [reset_roster] at h
    cases h
  · rw [reset_entries]
    rfl
  · rw [reset_entries]
    rfl

theorem cadenceInv_reset : CadenceInv (State.resetWith straps) :=
  ⟨nofun, fun _ => rfl, nofun, nofun⟩

end

/-- Settles O58. -/
theorem fullResetLeavesEveryBlockCoherent : Obligations.FullResetLeavesEveryBlockCoherent := fun straps =>
  ⟨logInv_reset straps, frontInv_reset straps, stationInv_reset straps, channelInv_reset straps, queueInv_reset straps,
    panelInv_reset straps, cadenceInv_reset straps⟩

end Sys2Proof.Machine
end

section
/-! PROOF. The frames of the panel link as bits: what the receiver makes of the bits that the sender's encoding
puts on the line (05, R88 to R90; 11, R177, R178). -/

namespace Sys2Proof.Machine

/-! ### Numbers and fields (11, preamble) -/

section
variable {bits xs : List Bool} {b : Bool} {k start w n : Nat}

@[simp] theorem length_numBits (w n : Nat) : (numBits w n).length = w := by
  induction w with
  | zero => rfl
  | succ w ih => rw [numBits, List.length_cons, ih]

theorem foldl_numBits (acc w n : Nat) :
    (numBits w n).foldl (fun a b => 2 * a + b.toNat) acc = acc * 2 ^ w + n % 2 ^ w := by
  induction w generalizing acc with
  | zero => simp [numBits, Nat.mod_one]
  | succ w ih =>
    have hbit : ((n / 2 ^ w % 2 == 1).toNat) = n / 2 ^ w % 2 := by
      rcases Nat.mod_two_eq_zero_or_one (n / 2 ^ w) with h | h <;> rw [h] <;> rfl
    rw [numBits, List.foldl_cons, ih, hbit, Nat.pow_succ, Nat.mod_mul]
    ring

/-- A number below `2 ^ w`, sent in `w` bits, reads back. -/
theorem bitsNum_numBits (h : n < 2 ^ w) : bitsNum (numBits w n) = n := by
  rw [bitsNum, foldl_numBits, Nat.mod_eq_of_lt h, Nat.zero_mul, Nat.zero_add]

theorem field_cons (h : 0 < start) : field (b :: bits) start w = field bits (start - 1) w := by
  obtain ⟨start, rfl⟩ : ∃ k, start = k + 1 := ⟨start - 1, by omega⟩
  rfl

theorem field_append (h : xs.length ≤ start) : field (xs ++ bits) start w = field bits (start - xs.length) w := by
  unfold field
  rw [List.drop_append, List.drop_eq_nil_of_le h, List.nil_append]

/-- A field passed over. -/
theorem field_skip (h : k ≤ start) : field (numBits k n ++ bits) start w = field bits (start - k) w := by
  rw [field_append (by rwa [length_numBits]), length_numBits]

/-- A field read back. -/
theorem field_here (h : n < 2 ^ w) : field (numBits w n ++ bits) 0 w = n := by
  unfold field
  rw [List.drop_zero, List.take_left' (length_numBits w n), bitsNum_numBits h]

theorem ofNat_station (p : Station) : Fin.ofNat 16 p.val = p := by simp

theorem ofNat_group (g : Group) : Fin.ofNat 8 g.val = g := by simp

end

/-! ### Kind and length (05, R88) -/

section
variable {bits bits' : List Bool} {kind len : Nat}

/-- The kind goes by the first four bits. -/
theorem kindOf_congr (h : bits.take 4 = bits'.take 4) : kindOf bits = kindOf bits' := by
  have hlength := congrArg List.length h
  have hdrop := congrArg (List.drop 1) h
  rw [List.length_take, List.length_take] at hlength
  rw [List.drop_take, List.drop_take] at hdrop
  have hiff : bits.length < 4 ↔ bits'.length < 4 := by omega
  unfold kindOf
  rw [show (bits.drop 1).take 3 = (bits'.drop 1).take 3 from hdrop]
  simp only [hiff]

/-- The length goes by the kind, and for a PULSE by the first sixteen bits once the seventeenth is read. -/
theorem lengthOf_congr (hkind : kindOf bits = kindOf bits')
    (h : kindOf bits = some 4 → 17 ≤ bits.length ∧ 17 ≤ bits'.length ∧ bits.take 16 = bits'.take 16) :
    lengthOf bits = lengthOf bits' := by
  unfold lengthOf
  rw [← hkind]
  split
  case h_5 hpulse =>
    obtain ⟨hlong, hlong', htake⟩ := h hpulse
    have hdrop := congrArg (List.drop 12) htake
    rw [List.drop_take, List.drop_take] at hdrop
    have hcount : countField bits = countField bits' := congrArg bitsNum hdrop
    rw [if_neg (show ¬ bits.length < 17 by omega), if_neg (show ¬ bits'.length < 17 by omega), hcount]
  all_goals rfl

theorem judge_of_known (hstart : bits.head? = some false) (hkind : kindOf bits = some kind) (h4 : kind ≤ 4)
    (hlong : kind = 4 → 17 ≤ bits.length) (hlen : lengthOf bits = some len) :
    judge bits = judgeKnown kind len bits := by
  unfold judge
  rw [if_neg (not_not.mpr hstart)]
  simp only [hkind, hlen]
  rw [if_neg (by omega), if_neg (fun h => by have := hlong h.1; omega)]

theorem judge_of_unknown (hstart : bits.head? = some false) (hkind : kindOf bits = none) :
    judge bits = .assembling := by
  unfold judge
  rw [if_neg (not_not.mpr hstart)]
  simp only [hkind]

theorem judge_of_pulse (hstart : bits.head? = some false) (hkind : kindOf bits = some 4) (hshort : bits.length < 17) :
    judge bits = .assembling := by
  unfold judge
  rw [if_neg (not_not.mpr hstart)]
  simp only [hkind, hshort, Nat.lt_irrefl, if_false, and_self, if_true]

/-! ### The end field and the last bit (05, R89, R90) -/

theorem dropLast_all {ends : List Bool} (h : ∀ b ∈ ends, b = true) : ends.dropLast.any (fun b => !b) = false := by
  rw [List.any_eq_false]
  intro b hb
  rw [h b (List.mem_of_mem_dropLast hb)]
  decide

theorem getLast_all {ends : List Bool} (h : ∀ b ∈ ends, b = true) : ends.getLast? ≠ some false := by
  intro hlast
  cases h false (List.mem_of_getLast? hlast)

theorem judgeKnown_assembling (hends : ∀ b ∈ bits.drop (len - 7), b = true) (hlength : bits.length < len) :
    judgeKnown kind len bits = .assembling := by
  unfold judgeKnown
  dsimp only
  rw [if_neg (by omega), dropLast_all hends, if_neg Bool.false_ne_true, if_neg (getLast_all hends), if_pos hlength]

theorem judgeKnown_endField {k : Nat} (hends : bits.drop (len - 7) = List.replicate k true ++ [false])
    (hlength : bits.length ≤ len) : judgeKnown kind len bits = .discarded 0 := by
  unfold judgeKnown
  dsimp only
  rw [if_neg (by omega), hends, List.dropLast_concat, if_neg, if_pos (List.getLast?_concat ..)]
  rw [List.any_replicate]
  simp

theorem judgeKnown_last (hends : ∀ b ∈ bits.drop (len - 7), b = true) (hlength : bits.length = len) :
    judgeKnown kind len bits =
      if (checkOf ((bits.drop 1).take (len - 16))).toNat ≠ field bits (len - 15) 8 then .discarded 7
      else match frameOf kind bits with
        | some f => .heard f
        | none => .discarded 7 := by
  unfold judgeKnown
  dsimp only
  rw [if_neg (by omega), dropLast_all hends, if_neg Bool.false_ne_true, if_neg (getLast_all hends), if_neg (by omega)]
    <;> rfl

end

/-! ### A frame sent with a check (05, 5.3) -/

/-- The kind and body bits `covered` on the line with the check `x`. -/
def sentWith (covered : List Bool) (x : BitVec 8) : List Bool :=
  false :: (covered ++ (numBits 8 x.toNat ++ List.replicate 7 true))

/-- The bits `covered` spell the kind and, once the bit after them is read, the length of their own frame. -/
def Spells (kind : Nat) (covered : List Bool) : Prop :=
  kind ≤ 4 ∧ 7 ≤ covered.length ∧ (kind = 4 → 15 ≤ covered.length)
    ∧ ∀ rest, rest ≠ [] → kindOf (false :: (covered ++ rest)) = some kind
      ∧ lengthOf (false :: (covered ++ rest)) = some (covered.length + 16)

section
variable {kind : Nat} {covered : List Bool} {x : BitVec 8}

theorem length_sentWith (covered : List Bool) (x : BitVec 8) : (sentWith covered x).length = covered.length + 16 := by
  simp [sentWith]

theorem drop_sentWith (covered : List Bool) (x : BitVec 8) :
    (sentWith covered x).drop (covered.length + 16 - 7) = List.replicate 7 true := by
  have hsplit : sentWith covered x = (false :: (covered ++ numBits 8 x.toNat)) ++ List.replicate 7 true := by
    simp [sentWith]
  rw [hsplit, List.drop_left' (by simp)]

/-- What is read of a frame sent with a check, up to where it may first be judged by its length. -/
theorem Spells.sentWith (h : Spells kind covered) : kindOf (sentWith covered x) = some kind
    ∧ lengthOf (sentWith covered x) = some (covered.length + 16) := by
  obtain ⟨-, -, -, hspelled⟩ := h
  exact hspelled (numBits 8 x.toNat ++ List.replicate 7 true) (by simp)

/-- The judgement at the last bit. -/
theorem judge_sentWith (h : Spells kind covered) : judge (sentWith covered x) =
    if x ≠ checkOf covered then .discarded 7
    else match frameOf kind (sentWith covered x) with
      | some f => .heard f
      | none => .discarded 7 := by
  obtain ⟨hkind, hlen⟩ := h.sentWith (x := x)
  obtain ⟨h4, h7, hpulse, -⟩ := h
  have hlength := length_sentWith covered x
  rw [judge_of_known rfl hkind h4 (fun h => by have := hpulse h; omega) hlen, judgeKnown_last]
  · have hcovered : ((sentWith covered x).drop 1).take (covered.length + 16 - 16) = covered := by
      simp [Machine.sentWith]
    have hfield : field (sentWith covered x) (covered.length + 16 - 15) 8 = x.toNat := by
      rw [Machine.sentWith, field_cons (by omega), field_append (by omega),
        show covered.length + 16 - 15 - 1 - covered.length = 0 by omega, field_here x.isLt]
    rw [hcovered, hfield]
    refine if_congr ?_ rfl rfl
    rw [ne_eq, ne_eq, BitVec.toNat_inj, eq_comm]
  · rw [drop_sentWith]
    exact fun b hb => List.eq_of_mem_replicate hb
  · exact hlength

/-- The judgement before the last bit. -/
theorem judge_take_sentWith (h : Spells kind covered) {n : Nat} (hn : 1 ≤ n) (hlast : n < covered.length + 16) :
    judge ((sentWith covered x).take n) = .assembling := by
  obtain ⟨hkind, hlen⟩ := h.sentWith (x := x)
  obtain ⟨h4, h7, hpulse, -⟩ := h
  have hlength : ((sentWith covered x).take n).length = n := by
    rw [List.length_take, length_sentWith]
    omega
  have hstart : ((sentWith covered x).take n).head? = some false := by
    rw [List.head?_take, if_neg (by omega)]
    rfl
  have htake (m : Nat) (hm : m ≤ n) : ((sentWith covered x).take n).take m = (sentWith covered x).take m := by
    rw [List.take_take, Nat.min_eq_left hm]
  by_cases hknown : n < 4
  · exact judge_of_unknown hstart (by rw [kindOf, if_pos (by rwa [hlength])])
  · have hkind' := (kindOf_congr (htake 4 (by omega))).trans hkind
    by_cases hshort : kind = 4 ∧ n < 17
    · obtain ⟨rfl, hshort⟩ := hshort
      exact judge_of_pulse hstart hkind' (by rwa [hlength])
    · have hlong : kind = 4 → 17 ≤ n := fun hk => by omega
      have hlen' : lengthOf ((sentWith covered x).take n) = some (covered.length + 16) := by
        rw [← hlen]
        refine lengthOf_congr (hkind'.trans hkind.symm) fun hk => ?_
        rw [hkind', Option.some.injEq] at hk
        rw [hlength, length_sentWith]
        exact ⟨hlong hk, by have := hlong hk; omega, htake 16 (by have := hlong hk; omega)⟩
      rw [judge_of_known hstart hkind' h4 (fun hk => by rw [hlength]; exact hlong hk) hlen',
        judgeKnown_assembling _ (by rwa [hlength])]
      intro b hb
      rw [List.drop_take, drop_sentWith] at hb
      exact List.eq_of_mem_replicate (List.mem_of_mem_take hb)

/-- A dominant bit of the end field. -/
theorem judge_endField (h : Spells kind covered) {k : Nat} (hk : k < 7) :
    judge ((sentWith covered x).take (covered.length + 16 - 7 + k) ++ [false]) = .discarded 0 := by
  obtain ⟨hkind, hlen⟩ := h.sentWith (x := x)
  obtain ⟨h4, h7, hpulse, -⟩ := h
  generalize hm : covered.length + 16 - 7 + k = m
  have hlength : ((sentWith covered x).take m).length = m := by
    rw [List.length_take, length_sentWith]
    omega
  have hstart : ((sentWith covered x).take m ++ [false]).head? = some false := by
    rw [List.head?_append, List.head?_take, if_neg (by omega)]
    rfl
  have htake (i : Nat) (hi : i ≤ m) :
      ((sentWith covered x).take m ++ [false]).take i = (sentWith covered x).take i := by
    rw [List.take_append_of_le_length (by rwa [hlength]), List.take_take, Nat.min_eq_left hi]
  have hkind' := (kindOf_congr (htake 4 (by omega))).trans hkind
  have hlen' : lengthOf ((sentWith covered x).take m ++ [false]) = some (covered.length + 16) := by
    rw [← hlen]
    refine lengthOf_congr (hkind'.trans hkind.symm) fun _ => ?_
    rw [List.length_append, hlength, length_sentWith]
    exact ⟨by simp; omega, by omega, htake 16 (by omega)⟩
  rw [judge_of_known hstart hkind' h4 (fun _ => by simp [hlength]; omega) hlen', judgeKnown_endField (k := k)]
  · rw [List.drop_append_of_le_length (by omega), List.drop_take, drop_sentWith, List.take_replicate]
    congr 2
    omega
  · rw [List.length_append, hlength]
    simp
    omega

end

end Sys2Proof.Machine
end

section
/-! PROOF. Each of the five kinds of frame, and what condemns one (05, R88 to R90; 11, R177, R178). -/

namespace Sys2Proof.Machine

/-! ### The kind and the length of each frame (05, R88) -/

section
variable {tail rest : List Bool} {k n : Nat} {p : Station} {w x y z : Bool}

theorem kindOf_numBits (hk : k < 8) : kindOf (false :: (numBits 3 k ++ tail)) = some k := by
  have hread : bitsNum (((false :: (numBits 3 k ++ tail)).drop 1).take 3) = k := by
    rw [List.drop_one, List.tail_cons, List.take_left' (length_numBits 3 k), bitsNum_numBits hk]
  rw [kindOf, if_neg (by simp), hread]

/-- A frame whose length goes by its kind. -/
theorem spells_of_kind {len : Nat} (hk : k < 4) (hlen : lengthOf (false :: (numBits 3 k ++ [])) = some len)
    (htail : tail.length + 19 = len) (hlong : 23 ≤ len) : Spells k (numBits 3 k ++ tail) := by
  refine ⟨by omega, by rw [List.length_append, length_numBits]; omega, fun h => by omega, fun rest _ => ?_⟩
  have hkind := kindOf_numBits (k := k) (tail := tail ++ rest) (by omega)
  rw [List.append_assoc]
  refine ⟨hkind, ?_⟩
  rw [List.length_append, length_numBits]
  have hsame := lengthOf_congr (hkind.trans (kindOf_numBits (tail := []) (by omega)).symm) fun h => by
    rw [hkind, Option.some.injEq] at h
    omega
  rw [hsame, hlen, ← htail]
  congr 1
  omega

/-- The holdings count of a PULSE (11, R177). -/
theorem countField_pulse (hn : n < 16) : countField (false :: (numBits 3 4 ++ (numBits 4 p.val ++ ([w, x, y, z]
    ++ (numBits 4 n ++ tail))))) = n := by
  show field _ 12 4 = n
  rw [field_cons (by decide), field_skip (by decide), field_skip (by decide), field_append (by simp)]
  exact field_here hn

/-- The sender of every frame but a CLAIM (11, R177). -/
theorem field_sender : field (false :: (numBits 3 k ++ (numBits 4 p.val ++ tail))) 4 4 = p.val := by
  rw [field_cons (by decide), field_skip (by decide)]
  exact field_here p.isLt

theorem spells_pulse (hn : n ≤ 8) (htail : tail.length = 7 * n) :
    Spells 4 (numBits 3 4 ++ (numBits 4 p.val ++ ([w, x, y, z] ++ (numBits 4 n ++ tail)))) := by
  refine ⟨le_refl 4, ?_, fun _ => ?_, fun rest hrest => ?_⟩
  · simp only [List.length_append, length_numBits]
    omega
  · simp only [List.length_append, length_numBits, List.length_cons, List.length_nil]
    omega
  · simp only [List.append_assoc]
    refine ⟨kindOf_numBits (by decide), ?_⟩
    have hrest' : 1 ≤ rest.length := List.length_pos_iff.mpr hrest
    unfold lengthOf
    have hlong : ¬ (false :: (numBits 3 4 ++ (numBits 4 p.val ++ ([w, x, y, z] ++ (numBits 4 n
      ++ (tail ++ rest)))))).length < 17 := by
      simp only [List.length_append, length_numBits, List.length_cons, List.length_nil]
      omega
    simp only [kindOf_numBits (k := 4) (by decide), hlong, if_false, countField_pulse (n := n) (by omega)]
    rw [if_pos (show n ≤ Config.maxHoldings from hn)]
    simp only [List.length_append, length_numBits, List.length_cons, List.length_nil, htail]
    congr 1
    omega

theorem length_holdingBits (l : List (Group × Channel)) : (holdingBits l).length = 7 * l.length := by
  induction l with
  | nil => rfl
  | cons a l ih =>
    have hcons : holdingBits (a :: l) = (numBits 3 a.1.val ++ numBits 4 a.2.val) ++ holdingBits l := rfl
    rw [hcons, List.length_append, List.length_append, ih, length_numBits, length_numBits, List.length_cons]
    omega

/-- The holdings read back, pair by pair. -/
theorem holdingsOf_holdingBits (l : List (Group × Channel)) (rest : List Bool) :
    holdingsOf l.length (holdingBits l ++ rest) = l := by
  induction l with
  | nil => rfl
  | cons a l ih =>
    obtain ⟨g, c⟩ := a
    have hcons : holdingBits ((g, c) :: l) ++ rest =
      numBits 3 g.val ++ (numBits 4 c.val ++ (holdingBits l ++ rest)) := by
      simp [holdingBits]
    have hdrop : (numBits 3 g.val ++ (numBits 4 c.val ++ (holdingBits l ++ rest))).drop 7 = holdingBits l ++ rest := by
      rw [← List.append_assoc, List.drop_left' (by simp)]
    rw [hcons, List.length_cons, holdingsOf, hdrop, ih, field_here (show g.val < 8 from g.isLt), field_skip (by decide),
      field_here (show c.val < 16 from c.isLt), ofNat_station, ofNat_group]

end

/-- The kind code of a frame (11, R177). -/
def frameKind : Frame → Nat
  | .recal _ => 0
  | .release _ _ _ _ => 1
  | .confirm _ _ _ => 2
  | .claim _ _ _ _ => 3
  | .pulse _ _ => 4

theorem spells_coveredBits {f : Frame} (h : f.WellFormed) : Spells (frameKind f) (coveredBits f) := by
  cases f with
  | recal p => exact spells_of_kind (k := 0) (tail := numBits 4 p.val) (by decide) rfl (by simp) (by decide)
  | release p g c r =>
    exact spells_of_kind (k := 1) (tail := numBits 4 p.val ++ (numBits 3 g.val ++ (numBits 4 c.val
      ++ numBits 3 (reasonCode r)))) (by decide) rfl (by simp) (by decide)
  | confirm p g c =>
    exact spells_of_kind (k := 2) (tail := numBits 4 p.val ++ (numBits 3 g.val ++ numBits 4 c.val)) (by decide) rfl
      (by simp) (by decide)
  | claim strength p g c =>
    exact spells_of_kind (k := 3) (tail := numBits 10 (1023 - strength) ++ (numBits 4 p.val ++ (numBits 3 g.val
      ++ numBits 4 c.val))) (by decide) rfl (by simp) (by decide)
  | pulse p fields => exact spells_pulse h (length_holdingBits _)

theorem reasonOfCode_reasonCode (r : Reason) : reasonOfCode (reasonCode r) = some r := by cases r <;> rfl

theorem reasonCode_lt (r : Reason) : reasonCode r < 8 := by cases r <;> decide

/-- The fields of a frame read back as sent, whatever follows them. -/
theorem frameOf_coveredBits {f : Frame} (h : f.WellFormed) (rest : List Bool) :
    frameOf (frameKind f) (false :: (coveredBits f ++ rest)) = some f := by
  cases f with
  | recal p => simp [frameOf, frameKind, coveredBits, field_cons, field_skip, field_here]
  | release p g c r =>
    simp [frameOf, frameKind, coveredBits, field_cons, field_skip, field_here, reasonCode_lt,
      reasonOfCode_reasonCode]
  | confirm p g c => simp [frameOf, frameKind, coveredBits, field_cons, field_skip, field_here]
  | claim strength p g c =>
    obtain ⟨hpositive, hmax⟩ := h
    have hmax' : strength ≤ 1023 := hmax
    simp only [frameOf, frameKind, coveredBits, List.append_assoc]
    simp [field_cons, field_skip, field_here]
    rw [field_here (by omega)]
    omega
  | pulse p fields =>
    have hn : fields.holdings.length < 16 := Nat.lt_of_le_of_lt h (by decide)
    have hcount := countField_pulse (p := p) (w := cadenceBit fields.cadence) (x := fields.hushed)
      (y := fields.stirred) (z := fields.leaving) (tail := holdingBits fields.holdings ++ rest) hn
    have hcadence : cadenceOfBit (cadenceBit fields.cadence) = fields.cadence := by cases fields.cadence <;> rfl
    simp only [frameOf, frameKind, coveredBits, List.append_assoc, hcount, field_sender]
    simp [numBits, holdingsOf_holdingBits, hcadence]

/-- Settles O24. -/
theorem framesReadBackAsSent : Obligations.FramesReadBackAsSent := by
  intro f h
  have hsent : frameBits f = sentWith (coveredBits f) (checkOf (coveredBits f)) := rfl
  rw [hsent, judge_sentWith (spells_coveredBits h), if_neg (not_not.mpr rfl)]
  simp only [sentWith, frameOf_coveredBits h]

/-- A kind that names none of the five. -/
theorem judge_noKind {x y : Bool} (h : x = true ∨ y = true) : judge [false, true, x, y] = .discarded 0 := by
  cases x <;> cases y
  case false.false => simp at h
  all_goals decide

/-- A holdings count over 8, at the seventeenth bit. -/
theorem judge_manyHoldings {p : Station} {w x y z bit : Bool} {n : Nat} (h9 : 9 ≤ n) (h15 : n ≤ 15) :
    judge (false :: (numBits 3 4 ++ (numBits 4 p.val ++ ([w, x, y, z] ++ (numBits 4 n ++ [bit]))))) = .discarded 0 := by
  have hkind := kindOf_numBits (k := 4) (tail := numBits 4 p.val ++ ([w, x, y, z] ++ (numBits 4 n ++ [bit])))
    (by decide)
  have hcount := countField_pulse (p := p) (w := w) (x := x) (y := y) (z := z) (tail := [bit]) (n := n) (by omega)
  have hover : ¬ n ≤ Config.maxHoldings := by
    have h8 : Config.maxHoldings = 8 := rfl
    omega
  have hlength : (false :: (numBits 3 4 ++ (numBits 4 p.val ++ ([w, x, y, z] ++ (numBits 4 n
    ++ [bit]))))).length = 17 := by
    simp
  have hstart : (false :: (numBits 3 4 ++ (numBits 4 p.val ++ ([w, x, y, z] ++ (numBits 4 n ++ [bit]))))).head?
      = some false := rfl
  generalize false :: (numBits 3 4 ++ (numBits 4 p.val ++ ([w, x, y, z] ++ (numBits 4 n ++ [bit])))) = bits at *
  unfold judge
  rw [if_neg (not_not.mpr hstart)]
  simp only [hkind, lengthOf, hcount, hlength, hover, Nat.lt_irrefl, if_false, and_false, if_true]

/-- Fields that spell no frame, under the right check. -/
theorem judge_unreadable {kind : Nat} {covered : List Bool} (h : Spells kind covered)
    (hnone : ∀ rest, frameOf kind (false :: (covered ++ rest)) = none) :
    judge (false :: (covered ++ numBits 8 (checkOf covered).toNat ++ List.replicate 7 true)) = .discarded 7 := by
  have hsent : false :: (covered ++ numBits 8 (checkOf covered).toNat ++ List.replicate 7 true)
      = sentWith covered (checkOf covered) := by simp [sentWith]
  rw [hsent, judge_sentWith h, if_neg (not_not.mpr rfl)]
  simp only [sentWith, hnone]

/-- Settles O25. -/
theorem wrongChecksAreDiscarded : Obligations.WrongChecksAreDiscarded := by
  refine ⟨fun f h => ⟨fun n hn hlast => ?_, fun x hx => ?_, fun k hk => ?_⟩, fun x y h => judge_noKind h,
    fun p w x y z bit n h9 h15 => ?_, fun p g c => ?_, fun p g c code h5 h7 => ?_⟩
  · have hlength : (frameBits f).length = (coveredBits f).length + 16 := length_sentWith _ _
    exact judge_take_sentWith (spells_coveredBits h) hn (by omega)
  · exact (judge_sentWith (spells_coveredBits h)).trans (if_pos hx)
  · have hlength : (frameBits f).length = (coveredBits f).length + 16 := length_sentWith _ _
    rw [hlength]
    exact judge_endField (spells_coveredBits h) hk
  · simp only [List.append_assoc]
    exact judge_manyHoldings h9 h15
  · intro covered
    have hspells : Spells 3 covered := by
      simp only [covered, List.append_assoc]
      exact spells_of_kind (by decide) rfl (by simp) (by decide)
    refine judge_unreadable hspells fun rest => ?_
    simp only [frameOf, covered, List.append_assoc]
    simp [field_cons, field_skip, field_here]
  · intro covered
    have hspells : Spells 1 covered := by
      simp only [covered, List.append_assoc]
      exact spells_of_kind (by decide) rfl (by simp) (by decide)
    have hreason : reasonOfCode code = none := by
      unfold reasonOfCode
      rw [if_neg (by omega), if_neg (by omega), if_neg (by omega), if_neg (by omega), if_neg (by omega)]
    refine judge_unreadable hspells fun rest => ?_
    simp only [frameOf, covered, List.append_assoc]
    simp [field_cons, field_skip]
    rw [field_here (by omega), hreason]

end Sys2Proof.Machine
end

section
/-! PROOF. One bit time with no command waiting (05, R86, R87, R94; logs 3 and 4). -/

namespace Sys2Proof.Machine

section
variable {s : State} {l : Link} {a : Attempt} {bit : Bool}

theorem step_of_idle (h : s.pending = []) : step s = .next (idle s) := by simp only [step, h]

theorem idle_of_waits (h : s.inReset = true ∨ 1000 ≤ s.sinceTick ∨ linkDue s.link = true) : idle s = s := by
  exact if_pos h

theorem linkDue_attempt {bits : List Bool} (hline : l.line = .receiving bits) (hattempt : l.attempt = some a) :
    linkDue l = decide (a.bit ≤ bits.length) := by
  simp only [linkDue, hline, hattempt]

theorem linkDue_frame {bits : List Bool} (hline : l.line = .receiving bits) (hattempt : l.attempt = none) :
    linkDue l = true ↔ (∃ f, judge bits = .heard f) ∨ ∃ run, judge bits = .discarded run := by
  simp only [linkDue, hline, hattempt]
  cases judge bits <;> simp

/-- No event of the link is due: any frame in assembly is not yet judged, and an attempt's bit not yet read. -/
theorem linkDue_eq_false (h : ∀ bits, l.line = .receiving bits → match l.attempt with
    | some a => bits.length < a.bit
    | none => judge bits = .assembling) : linkDue l = false := by
  cases hline : l.line with
  | receiving bits =>
    have hbits := h bits hline
    cases hattempt : l.attempt with
    | none =>
      rw [hattempt] at hbits
      simp only [linkDue, hline, hattempt, hbits]
    | some a =>
      rw [hattempt] at hbits
      rw [linkDue_attempt hline hattempt]
      exact decide_eq_false (Nat.not_le.mpr hbits)
  | stopped => simp only [linkDue, hline]
  | seeking run => simp only [linkDue, hline]
  | idle => simp only [linkDue, hline]

/-- The line without an attempt, row by row of the table of R87. -/
theorem lineReads_eq (bit : Bool) (line : Line) : (∀ bits, line = .receiving bits → judge bits = .assembling) →
    lineReads bit line = match line with
      | .stopped => .stopped
      | .seeking run => if bit = false then .seeking 0 else if run + 1 < 10 then .seeking (run + 1) else .idle
      | .idle => if bit = false then .receiving [false] else .idle
      | .receiving bits => .receiving (bits ++ [bit]) := by
  intro h
  cases line with
  | stopped => rfl
  | seeking run =>
    cases bit with
    | false => rfl
    | true =>
      by_cases hrun : run + 1 < 10
      · simp [lineReads, hrun, show ¬ 9 ≤ run by omega]
      · simp [lineReads, hrun, show 9 ≤ run by omega]
  | idle => cases bit <;> rfl
  | receiving bits => simp only [lineReads, h bits rfl]

/-- The bit read back with an attempt in progress (05, R94). -/
theorem attemptReads_eq (bit : Bool) (a : Attempt) (l : Link) : attemptReads bit a l =
    if (decide ((frameBits a.frame)[a.bit - 1]? ≠ some false) && bit)
      ≠ decide ((frameBits a.frame)[a.bit - 1]? ≠ some false)
        ∨ (frameBits a.frame).length ≤ a.bit then
      { l with line := .receiving ((frameBits a.frame).take (a.bit - 1)
        ++ [decide ((frameBits a.frame)[a.bit - 1]? ≠ some false) && bit]) }
    else { l with
      line := .receiving ((frameBits a.frame).take (a.bit - 1)
        ++ [decide ((frameBits a.frame)[a.bit - 1]? ≠ some false) && bit])
      attempt := some {
        slot := a.slot, frame := a.frame, bit := a.bit + 1
        phase := if a.bit + 1 ≤ arbitrationEnd a.frame then .arbitrating else .sending }
      linkLow := (frameBits a.frame)[a.bit]? == some false } := by
  have hsent : (!sentDominant a.frame a.bit) = decide ((frameBits a.frame)[a.bit - 1]? ≠ some false) := by
    unfold sentDominant
    by_cases h : (frameBits a.frame)[a.bit - 1]? = some false <;> simp [h]
  unfold attemptReads
  rw [hsent]
  dsimp only
  generalize decide ((frameBits a.frame)[a.bit - 1]? ≠ some false) = sent
  by_cases hnext : (sent && bit) = sent ∧ a.bit < (frameBits a.frame).length
  · obtain ⟨hread, hlength⟩ := hnext
    rw [if_pos ⟨hread, hlength⟩, if_neg (by rintro (h | h); exacts [h hread, absurd h (Nat.not_le.mpr hlength)])]
    unfold driveNext
    dsimp only
    congr 2
    congr 1
    by_cases hphase : a.bit + 1 ≤ arbitrationEnd a.frame
    · rw [if_pos hphase, if_neg (Nat.not_lt.mpr hphase)]
    · rw [if_neg hphase, if_pos (Nat.not_le.mp hphase)]
  · rw [if_neg hnext, if_pos]
    by_contra hc
    rw [not_or, not_not, Nat.not_le] at hc
    exact hnext hc

end

/-- Settles O2. -/
theorem idleStepIsOneBitTime : Obligations.IdleStepIsOneBitTime := by
  intro s hpending
  have hstep := step_of_idle hpending
  refine ⟨fun h => ?_, fun h => ?_, fun bits a hline hattempt hbit => ?_, fun bits hline hattempt hjudged => ?_,
    fun hreset htick hdue => ?_⟩
  · rw [hstep, idle_of_waits (.inl h)]
  · rw [hstep, idle_of_waits (.inr (.inl h))]
  · rw [hstep, idle_of_waits (.inr (.inr ?_))]
    rw [linkDue_attempt hline hattempt]
    exact decide_eq_true hbit
  · rw [hstep, idle_of_waits (.inr (.inr ((linkDue_frame hline hattempt).mpr hjudged)))]
  · have hpasses : ¬(s.inReset = true ∨ msUs ≤ s.sinceTick ∨ linkDue s.link = true) := by
      rw [hreset, linkDue_eq_false hdue]
      rintro (h | h | h)
      · cases h
      · exact absurd h (Nat.not_le.mpr htick)
      · cases h
    have hidle : idle s = { elapse (min 8 (1000 - s.sinceTick)) s with
        sinceTick := s.sinceTick + min 8 (1000 - s.sinceTick)
        link := linkReads (s.wire.head?.getD true) s.link
        wire := s.wire.tail } := by
      rw [idle, if_neg hpasses]
      rfl
    have hbit : s.wire.head?.getD true = match s.wire with
      | [] => true
      | level :: _ => level := by
      cases s.wire <;> rfl
    refine ⟨_, hstep, ?_, ?_⟩
    · rw [hidle]
      rfl
    · rw [hidle]
      dsimp only
      rw [hbit]
      unfold linkReads
      cases hattempt : s.link.attempt with
      | none =>
        dsimp only
        have hassembling (bits : List Bool) (hline : s.link.line = .receiving bits) : judge bits = .assembling := by
          have hjudged := hdue bits hline
          rw [hattempt] at hjudged
          exact hjudged
        rw [lineReads_eq _ _ hassembling]
          <;> rfl
      | some a =>
        dsimp only
        rw [attemptReads_eq, hattempt]
          <;> rfl

end Sys2Proof.Machine
end

section
/-! PROOF. What the events do to the channel records (01, 02, 04). `Move` lists the ways in which an event other
than a conversion or a start changes a record; each operation is shown once to change every record by moves,
and what a move keeps is shown once for all. -/

namespace Sys2Proof.Machine

/-! ### The moves of a record -/

/-- What an event other than a conversion or a start can make of a record. A record turns CONTENDING or PRESSED
only where `on` allows it: in ONLINE (04, R69). -/
inductive Move (st : Settings) (on : Bool) : Chan → Chan → Prop
  | refl (r : Chan) : Move st on r r
  | trans {r r' r'' : Chan} (h : Move st on r r') (h' : Move st on r' r'') : Move st on r r''
  | suppress {r : Chan} (h : claimSide r.state = true) : Move st on r (toSuppressed r)
  | contend {r : Chan} (hon : on = true) (h : r.state = .candidate) :
      Move st on r { r with state := .contending }
  | press {r : Chan} (hon : on = true) (h : r.state = .contending) :
      Move st on r { r with state := .pressed, holdTimer := st.holdUs }
  | idle {r : Chan} (h : r.state = .arming ∨ claimSide r.state = true) : Move st on r (toIdle r)
  | seed {r : Chan} (hoff : r.state ≠ .off) (hfaulted : r.state ≠ .faulted) : Move st on r (toSeeding r)
  | recover {r : Chan} (h : r.state = .faulted) : Move st on r (faultedToSeeding r)
  | runDown (us : Nat) (r : Chan) : Move st on r { r with holdTimer := runDown us r.holdTimer }

section
variable {st : Settings} {on : Bool} {r r' : Chan}

theorem Move.setup (h : Move st on r r') : r'.setup = r.setup := by
  induction h with
  | trans _ _ ih ih' => exact ih'.trans ih
  | _ => rfl

/-- A record on the claim side or in ARMING was so before. -/
theorem Move.touched (h : Move st on r r') (ht : r'.state = .arming ∨ claimSide r'.state = true) :
    r.state = .arming ∨ claimSide r.state = true := by
  induction h with
  | refl | runDown => exact ht
  | trans _ _ ih ih' => exact ih (ih' ht)
  | suppress h => exact .inr h
  | contend _ h | press _ h => exact .inr (by rw [h]; rfl)
  | idle h => exact h
  | seed | recover => obtain h | h := ht <;> cases h

/-- No move ends a seeding. -/
theorem Move.seeding (h : Move st on r r') (hs : r.state = .seeding) : r'.state = .seeding := by
  induction h with
  | refl | runDown => exact hs
  | trans _ _ ih ih' => exact ih' (ih hs)
  | suppress h => rw [hs] at h; cases h
  | contend _ h | press _ h => rw [hs] at h; cases h
  | idle h => rw [hs] at h; obtain h | h := h <;> cases h
  | seed | recover => rfl

/-- Outside ONLINE no move makes a record CONTENDING or PRESSED. -/
theorem Move.notHolding (h : Move st false r r') (hr : r.state ≠ .contending ∧ r.state ≠ .pressed) :
    r'.state ≠ .contending ∧ r'.state ≠ .pressed := by
  induction h with
  | refl | runDown => exact hr
  | trans _ _ ih ih' => exact ih' (ih hr)
  | contend hon | press hon => cases hon
  | suppress | idle | seed | recover => exact ⟨nofun, nofun⟩

theorem Move.trans_eq (h : Move st on r r') {r'' : Chan} (he : r'' = r') : Move st on r r'' := he ▸ h

end

/-- Every record of `t` is that of `s` after some moves. -/
def Moves (on : Bool) (s t : State) : Prop :=
  ∀ c : Channel, Move s.tracker.settings on s.chans[c] t.chans[c]

section
variable {on : Bool} {s t u : State}

theorem Moves.of_eq (h : t.chans = s.chans) : Moves on s t := fun c => by rw [h]; exact .refl _

theorem Moves.refl (s : State) : Moves on s s := .of_eq rfl

theorem Moves.trans (h : Moves on s t) (hsettings : t.tracker.settings = s.tracker.settings)
    (h' : Moves on t u) : Moves on s u := fun c => (h c).trans (hsettings ▸ h' c)

/-- One record written. -/
theorem Moves.setChan {c : Channel} {r : Chan} (h : Move s.tracker.settings on s.chans[c] r) :
    Moves on s (s.setChan c r) := by
  intro d
  rw [State.setChan_chans, set_get]
  split
  next hd => subst hd; exact h
  next => exact .refl _

/-- One record written after something that touched none. -/
theorem Moves.setChan_of {c : Channel} {r : Chan} (hu : u.chans = s.chans)
    (h : Move s.tracker.settings on s.chans[c] r) : Moves on s (u.setChan c r) := by
  have hset : (u.setChan c r).chans = (s.setChan c r).chans := by rw [State.setChan_chans, State.setChan_chans, hu]
  intro d
  rw [hset]
  exact Moves.setChan h d

/-- Every record written by one function. -/
theorem Moves.each {f : Channel → Chan → Chan} (hu : u.chans = each f s.chans)
    (h : ∀ c, Move s.tracker.settings on s.chans[c] (f c s.chans[c])) : Moves on s u := by
  intro c
  rw [hu, each_get]
  exact h c

theorem Moves.isKey (h : Moves on s t) (hsettings : t.tracker.settings = s.tracker.settings) (c : Channel) :
    t.isKey c = s.isKey c := by
  simp only [State.isKey, (h c).setup, hsettings]

end

/-! ### The key state unit and the claim table (03, 04) -/

section
variable (on : Bool) (s : State)

theorem evaluate_moves (which : Group → Bool) : Moves on s (evaluate which s) := by
  unfold evaluate
  split
  · refine .each rfl fun c => ?_
    split
    · unfold evaluatedChan
      split
      next h =>
        have hcandidate : s.chans[c].state = .candidate := by
          simp only [evaluated, Bool.and_eq_true, decide_eq_true_eq] at h
          exact h.1.1.1
        exact .suppress (by rw [hcandidate]; rfl)
      next => exact .refl _
    · exact .refl _
  · exact .refl s

theorem loseContest_moves (c : Channel) : Moves on s (loseContest c s) := by
  unfold loseContest
  split
  next h => exact .setChan (.suppress (by rw [h]; rfl))
  next => exact .refl s

theorem holderLoses_moves (g : Group) (h : Holder) : Moves on s (holderLoses g h s) := by
  unfold holderLoses
  split
  · exact loseContest_moves on s h.channel
  · exact .refl s

theorem claimTakes_moves (g : Group) {h : Holder} (strength : Nat) (hon : s.isLocal h = true → on = true) :
    Moves on s (claimTakes g h strength s) := by
  unfold claimTakes
  split
  next hlocal =>
    obtain ⟨hlocal, hstate⟩ := (Bool.and_eq_true ..).mp hlocal
    exact .setChan (.contend (hon hlocal) (of_decide_eq_true hstate))
  next => exact .refl s

theorem claimRefused_moves (h : Holder) : Moves on s (claimRefused h s) := by
  unfold claimRefused
  split
  next hlocal =>
    obtain ⟨-, hstate⟩ := (Bool.and_eq_true ..).mp hlocal
    exact .setChan (.suppress (by rw [of_decide_eq_true hstate]; rfl))
  next => exact .refl s

theorem claimHeard_moves {h : Holder} (g : Group) (strength : Nat) (hon : s.isLocal h = true → on = true) :
    Moves on s (claimHeard h g strength s) := by
  have hstray : Moves on s (strayFrame s) := .refl s
  unfold claimHeard
  split
  · exact claimTakes_moves on s g strength hon
  · exact claimTakes_moves on s g strength hon
  next old _ _ _ _ =>
    split
    · exact hstray.trans rfl (claimRefused_moves on _ h)
    · split
      · refine (holderLoses_moves on s g _).trans (by simp) (claimTakes_moves on _ g strength ?_)
        have hnumber : (holderLoses g old s).number = s.number := by simp [State.number]
        rw [State.isLocal, hnumber]
        exact hon
      · exact claimRefused_moves on s h
  · split
    · exact hstray.trans rfl (claimRefused_moves on _ h)
    · exact claimRefused_moves on s h

theorem press_moves {h : Holder} (hon : s.isLocal h = true → on = true) : Moves on s (press h s) := by
  unfold press
  split
  next hlocal =>
    obtain ⟨hlocal, hstate⟩ := (Bool.and_eq_true ..).mp hlocal
    exact .setChan (.press (hon hlocal) (of_decide_eq_true hstate))
  next => exact .refl s

theorem confirmHeard_moves {h : Holder} (g : Group) (hon : s.isLocal h = true → on = true) :
    Moves on s (confirmHeard h g s) := by
  unfold confirmHeard
  split
  · split
    · refine Moves.trans (.of_eq ?_) ?_ (press_moves on _ hon) <;> rfl
    · exact .refl s
  · exact .refl s

theorem resyncGroup_moves (p : Station) (holdings : List (Group × Channel)) (g : Group) :
    Moves on s (resyncGroup p holdings s g) := by
  unfold resyncGroup
  dsimp only
  split
  next c _ =>
    split
    next h =>
      have hside : claimSide s.chans[c].state = true := by obtain h | h := h <;> (rw [h]; rfl)
      exact fun d => Moves.setChan (.suppress hside) d
    next => exact .refl s
  next => exact .refl s

theorem resync_moves (p : Station) (holdings : List (Group × Channel)) :
    Moves on s (resync p holdings s) := by
  unfold resync
  induction List.finRange 8 generalizing s with
  | nil => exact .refl s
  | cons g gs ih => exact (resyncGroup_moves on s p holdings g).trans (by simp) (ih _)

theorem recalHeard_moves : Moves on s (recalHeard s) := by
  intro c
  rw [recalHeard_chans_eq]
  split
  next h =>
    obtain ⟨-, hoff, hfaulted⟩ | ⟨-, hidle | hseeding⟩ := h
    · exact .seed hoff hfaulted
    · exact .seed (by rw [hidle]; decide) (by rw [hidle]; decide)
    · exact .seed (by rw [hseeding]; decide) (by rw [hseeding]; decide)
  next => exact .refl _

theorem tableHears_moves {f : Frame} (hon : senderOf f = s.number → on = true) :
    Moves on s (tableHears f s) := by
  have hlocal (p : Station) (c : Channel) (hp : p = s.number → on = true) :
      s.isLocal { station := p, channel := c } = true → on = true := fun h => hp (of_decide_eq_true h)
  cases f with
  | recal => exact recalHeard_moves on s
  | release => exact .of_eq (by simp [tableHears])
  | confirm p g c => exact confirmHeard_moves on s g (hlocal p c hon)
  | claim strength p g c => exact claimHeard_moves on s g strength (hlocal p c hon)
  | pulse p fields =>
    show Moves on s (if p = s.number ∨ fields.leaving = true then s else resync p fields.holdings s)
    split
    · exact .refl s
    · exact resync_moves on s p fields.holdings

/-! ### Changes of station state (02, R42; 04, R84) -/

theorem stopTracker_moves : Moves on s (stopTracker s) := by
  refine .each rfl fun c => ?_
  split
  next h => exact .idle (.inl h)
  next => exact .refl _

theorem keysToIdle_moves : Moves on s (keysToIdle s) := by
  refine .each rfl fun c => ?_
  split
  next h => exact .idle (.inr h)
  next => exact .refl _

theorem enterStopped_moves (st : StationState) : Moves on s (enterStopped st s) := by
  have hchans : (enterStopped st s).chans = each (fun _ r => stoppedChan s.online r) s.chans := by rw [enterStopped_eq]
  refine .each hchans fun c => ?_
  unfold stoppedChan
  split
  next h => exact .idle (h.imp_right And.right)
  next => exact .refl _

theorem enterMuted_moves : Moves on s (enterMuted s) := by
  have hchans : (enterMuted s).chans
      = each (fun _ r => if claimSide r.state then toIdle r else r) s.chans := by rw [enterMuted_eq]
  refine .each hchans fun c => ?_
  split
  next h => exact .idle (.inr h)
  next => exact .refl _

theorem enterOnline_moves : Moves on s (enterOnline s) := by
  unfold enterOnline
  refine Moves.trans (.of_eq ?_) ?_ (evaluate_moves on _ _) <;> simp

/-! ### The events (03, 04, 05) -/

theorem deliver_moves {f : Frame} (own : Option TxSlot) (hon : senderOf f = s.number → on = true) :
    Moves on s (deliver f own s) := by
  have hheard : Moves on s (heardBy f s) := by
    refine Moves.trans (t := rosterHears f (afterFrame s)) (.of_eq (by simp)) (by simp)
      (tableHears_moves on _ ?_)
    simpa [State.number] using hon
  have hsettings : (heardBy f s).tracker.settings = s.tracker.settings := by
    unfold heardBy tableHears
    split <;> (try split) <;> simp [recalHeard_settings]
  cases own with
  | none =>
    rw [deliver_none]
    exact (hheard.trans hsettings (.of_eq (by simp))).trans (by simpa using hsettings)
      (evaluate_moves on _ _)
  | some slot =>
    have hsucceeded : Moves on s (succeededBy slot f s) :=
      hheard.trans hsettings (.of_eq (by simp [succeededBy]))
    have hsettings' : (succeededBy slot f s).tracker.settings = s.tracker.settings := by
      simpa [succeededBy] using hsettings
    rw [deliver_own]
    split
    · exact hsucceeded.trans hsettings' (enterStopped_moves on _ _)
    · exact (hsucceeded.trans hsettings' (.of_eq (by simp))).trans (by simpa using hsettings')
        (evaluate_moves on _ _)

theorem attemptEndHandled_moves (slot : TxSlot) : Moves on s (attemptEndHandled slot s) := by
  unfold attemptEndHandled
  split
  · exact Moves.trans (.of_eq (by simp)) (by simp) (evaluate_moves on _ _)
  · exact .refl s

theorem failAttempt_moves (slot : TxSlot) : Moves on s (failAttempt slot s) := by
  unfold failAttempt
  extract_lets s1
  have hs1 : Moves on s s1 := .refl s
  split
  · split
    · exact hs1.trans rfl (enterStopped_moves on s1 _)
    · exact hs1.trans rfl (enterMuted_moves on s1)
  · exact hs1.trans rfl (attemptEndHandled_moves on s1 slot)

theorem handOnChanges_moves (old : Vector Entry 8) : Moves on s (handOnChanges old s) := by
  unfold handOnChanges
  refine Moves.trans (.of_eq ?_) ?_ (evaluate_moves on _ _) <;> (split <;> simp)

theorem abandonExpires_moves (g : Group) : Moves on s (abandonExpires g s) := by
  by_cases hdue : ∃ h strength contest, s.table.entries[g] = .contested h strength 0 contest
  · obtain ⟨h, strength, contest, he⟩ := hdue
    have hlost : Moves on s (contestAbandoned g h s) := by
      have hmoves := holderLoses_moves on s g h
      rw [holderLoses_eq] at hmoves
      exact hmoves
    rw [abandonExpires_eq he]
    exact hlost.trans rfl (evaluate_moves on _ _)
  · unfold abandonExpires
    split
    next h strength contest he => exact absurd ⟨h, strength, contest, he⟩ hdue
    next => exact .refl s

theorem peerExpires_moves (p : Station) : Moves on s (peerExpires p s) := by
  unfold peerExpires
  split
  · exact Moves.trans (.of_eq (by simp)) (by simp) (handOnChanges_moves on _ _)
  · exact .refl s

theorem reseedChannel_moves {c : Channel} (hoff : s.chans[c].state ≠ .off) :
    Moves on s (reseedChannel c s) := by
  have hseeded : Move s.tracker.settings on s.chans[c] (reseededChan s.chans[c]) := by
    unfold reseededChan
    split
    next h => exact .recover h
    next h => exact .seed hoff h
  unfold reseedChannel
  exact (Moves.setChan_of (by simp) hseeded).trans (by simp) (evaluate_moves on _ _)

theorem holdEnded_moves {c : Channel} (hstate : s.chans[c].state = .pressed) :
    Moves on s ((leaveClaimSide .stuck c s).setChan c (toSeeding s.chans[c])) :=
  .setChan_of (by simp) (.seed (by rw [hstate]; decide) (by rw [hstate]; decide))

theorem elapse_moves (us : Nat) : Moves on s (elapse us s) :=
  .each (f := fun _ r => { r with holdTimer := runDown us r.holdTimer }) rfl fun _ => .runDown us _

end

end Sys2Proof.Machine
end

section
/-! PROOF. A channel record is coherent through every move, every count and every start (01, R11 to R15; 02, R20,
R23, R26 to R32; 04, R79). `ChanCore` is what a record keeps at each single assignment; the delta is right again
once a count has been processed. -/

namespace Sys2Proof.Machine

/-- What a coherent record holds but for its delta's value, field by field. -/
structure ChanCore (st : Settings) (isRef : Bool) (r : Chan) : Prop where
  count : (r.count.all fun n => decide (n ≤ Config.maxCount)) = true
  baseline : (r.baseline.all fun b => decide (b ≤ Config.maxCount)) = true
  rail : r.rail < Config.railRun
  inRange_iff : r.inRange.isSome = true ↔ r.state = .faulted
  inRange_lt : (r.inRange.all fun n => decide (n < Config.railRun)) = true
  seed_iff : r.seed.isSome = true ↔ r.state = .seeding
  seed_range : (r.seed.all fun p => decide (p.2 < Config.seedRun) && decide (p.1 ≤ Config.maxCount * p.2)) = true
  hold : r.holdTimer.isSome = true → r.state = .pressed
  deviation : r.deviation.isSome = true → isRef = true
  antiTouch : r.antiTouch < Config.antiTouchRun
  touch : r.touchDebounce = 0 ∨ r.touchDebounce < st.touchDebounce
  lift : r.liftDebounce = 0 ∨ r.liftDebounce < st.liftDebounce
  drift : r.drift = 0 ∨ (-(st.driftPeriod : Int) < r.drift ∧ r.drift < (st.driftPeriod : Int))
  noDelta : r.state = .off ∨ r.state = .seeding → r.delta = none

/-- The delta is that of the baseline and the count, where it is judged (02, R20). -/
def DeltaRight (isRef : Bool) (r : Chan) : Prop :=
  isRef = true ∨ r.state = .faulted ∨ r.delta = none
    ∨ r.delta = r.baseline.bind fun b => r.count.map fun n => deltaOf b n

section
variable {st : Settings} {on isRef hushed : Bool} {r r' : Chan} {n b : Nat}

theorem chanInv_iff : ChanInv st isRef r ↔ ChanCore st isRef r ∧ DeltaRight isRef r := by
  constructor
  · rintro ⟨h1, h2, h3, h4, h5, h6, h7, h8, h9, h10, h11, h12, h13, h14, h15⟩
    exact ⟨⟨h1, h2, h3, h4, h5, h6, h7, h8, h9, h10, h11, h12, h13, h14⟩, h15⟩
  · rintro ⟨⟨h1, h2, h3, h4, h5, h6, h7, h8, h9, h10, h11, h12, h13, h14⟩, h15⟩
    exact ⟨h1, h2, h3, h4, h5, h6, h7, h8, h9, h10, h11, h12, h13, h14, h15⟩

/-! ### Moves -/

theorem ChanCore.inRange_none (h : ChanCore st isRef r) (hs : r.state ≠ .faulted) : r.inRange = none :=
  Option.not_isSome_iff_eq_none.mp fun hc => hs (h.inRange_iff.mp hc)

theorem ChanCore.seed_none (h : ChanCore st isRef r) (hs : r.state ≠ .seeding) : r.seed = none :=
  Option.not_isSome_iff_eq_none.mp fun hc => hs (h.seed_iff.mp hc)

theorem ChanCore.hold_none (h : ChanCore st isRef r) (hs : r.state ≠ .pressed) : r.holdTimer = none :=
  Option.not_isSome_iff_eq_none.mp fun hc => hs (h.hold hc)

/-- The state of a record that is neither FAULTED nor in SEEDING moved to another such, with the hold timer's
rule kept. -/
theorem ChanCore.withState {state : ChanState} {hold : Option Nat} (h : ChanCore st isRef r)
    (hs : r.state ≠ .faulted ∧ r.state ≠ .seeding) (ht : state ≠ .faulted ∧ state ≠ .seeding ∧ state ≠ .off)
    (hhold : hold.isSome = true → state = .pressed) :
    ChanCore st isRef { r with state := state, holdTimer := hold } :=
  { h with
    inRange_iff := iff_of_false (fun hc => hs.1 (h.inRange_iff.mp hc)) ht.1
    seed_iff := iff_of_false (fun hc => hs.2 (h.seed_iff.mp hc)) ht.2.1
    hold := hhold
    noDelta := fun hc => hc.elim (fun h => absurd h ht.2.2) fun h => absurd h ht.2.1 }

theorem ChanCore.toIdle (h : ChanCore st isRef r) (hs : r.state ≠ .faulted ∧ r.state ≠ .seeding) :
    ChanCore st isRef (toIdle r) :=
  { h.withState (state := .idle) (hold := none) hs (by decide) nofun with
    touch := .inl rfl
    lift := .inl rfl
    antiTouch := show 0 < Config.antiTouchRun by decide }

theorem ChanCore.toSeeding (h : ChanCore st isRef r) (hs : r.state ≠ .faulted) : ChanCore st isRef (toSeeding r) :=
  { h with
    inRange_iff := iff_of_false (fun hc => hs (h.inRange_iff.mp hc)) nofun
    seed_iff := iff_of_true rfl rfl
    seed_range := by simp [Machine.toSeeding, Config.seedRun]
    hold := nofun
    deviation := nofun
    touch := .inl rfl
    lift := .inl rfl
    drift := .inl rfl
    antiTouch := show 0 < Config.antiTouchRun by decide
    noDelta := fun _ => rfl }

theorem ChanCore.recovered (h : ChanCore st isRef r) : ChanCore st isRef (faultedToSeeding r) where
  count := h.count
  baseline := h.baseline
  rail := show 0 < Config.railRun by decide
  inRange_iff := iff_of_false nofun nofun
  inRange_lt := rfl
  seed_iff := iff_of_true rfl rfl
  seed_range := by simp [faultedToSeeding, Machine.toSeeding, Config.seedRun]
  hold := nofun
  deviation := nofun
  antiTouch := show 0 < Config.antiTouchRun by decide
  touch := .inl rfl
  lift := .inl rfl
  drift := .inl rfl
  noDelta := fun _ => rfl

theorem claimSide_only (h : claimSide r.state = true) : r.state ≠ .faulted ∧ r.state ≠ .seeding := by
  constructor <;> (intro hs; rw [hs] at h; cases h)

theorem arming_or_claimSide_only (h : r.state = .arming ∨ claimSide r.state = true) :
    r.state ≠ .faulted ∧ r.state ≠ .seeding := by
  obtain h | h := h
  · rw [h]
    decide
  · exact claimSide_only h

theorem runDown_isSome (us : Nat) (t : Option Nat) : (runDown us t).isSome = t.isSome := by
  cases t <;> rfl

theorem Move.core (h : Move st on r r') (hr : ChanCore st isRef r) : ChanCore st isRef r' := by
  induction h with
  | refl => exact hr
  | trans _ _ ih ih' => exact ih' (ih hr)
  | suppress h => exact hr.withState (claimSide_only h) (by decide) nofun
  | @contend r _ h =>
    refine hr.withState (hold := r.holdTimer) (by rw [h]; decide) (by decide) fun hc => ?_
    rw [hr.hold_none (by rw [h]; decide)] at hc
    cases hc
  | press _ h => exact hr.withState (by rw [h]; decide) (by decide) fun _ => rfl
  | idle h => exact hr.toIdle (arming_or_claimSide_only h)
  | seed _ hfaulted => exact hr.toSeeding hfaulted
  | recover => exact hr.recovered
  | runDown us r => exact { hr with hold := fun hc => hr.hold (by rwa [← runDown_isSome us]) }

/-- A move that does not seed leaves the delta, the baseline and the count. -/
theorem DeltaRight.of_same (h : DeltaRight isRef r) (hs : r.state ≠ .faulted) (hdelta : r'.delta = r.delta)
    (hbaseline : r'.baseline = r.baseline) (hcount : r'.count = r.count) : DeltaRight isRef r' := by
  unfold DeltaRight
  rw [hdelta, hbaseline, hcount]
  exact h.imp_right fun h => .inr (h.resolve_left hs)

theorem Move.deltaRight (h : Move st on r r') (hr : DeltaRight isRef r) : DeltaRight isRef r' := by
  induction h with
  | refl => exact hr
  | trans _ _ ih ih' => exact ih' (ih hr)
  | suppress h => exact hr.of_same (claimSide_only h).1 rfl rfl rfl
  | contend _ h => exact hr.of_same (by rw [h]; decide) rfl rfl rfl
  | press _ h => exact hr.of_same (by rw [h]; decide) rfl rfl rfl
  | idle h => exact hr.of_same (arming_or_claimSide_only h).1 rfl rfl rfl
  | seed => exact .inr (.inr (.inl rfl))
  | recover => exact .inr (.inr (.inl rfl))
  | runDown => exact hr

/-! ### Counts of a key channel (01, R11 to R15; 02, R23 to R32) -/

/-- The count and the rail run taken (02, R19). -/
theorem ChanCore.counted {rail : Nat} (h : ChanCore st isRef r) (hn : n ≤ Config.maxCount)
    (hrail : rail < Config.railRun) :
    ChanCore st isRef { r with count := some n, rail := rail } :=
  { h with count := decide_eq_true hn, rail := hrail }

/-- A delta written outside OFF and SEEDING. -/
theorem ChanCore.withDelta {delta : Option Int} (h : ChanCore st isRef r) (hs : r.state ≠ .off ∧ r.state ≠ .seeding) :
    ChanCore st isRef { r with delta := delta } :=
  { h with noDelta := fun hc => (not_or.mpr hs hc).elim }

theorem ChanCore.toCandidate (h : ChanCore st isRef r) (hs : r.state ≠ .faulted ∧ r.state ≠ .seeding)
    (hhold : r.holdTimer = none) : ChanCore st isRef (toCandidate r) :=
  { h.withState (state := .candidate) (hold := r.holdTimer) hs (by decide)
      (fun hc => by rw [hhold] at hc; cases hc) with
    touch := .inl rfl
    lift := .inl rfl }

theorem ChanCore.seedCount {paused : Bool} (h : ChanCore st isRef r) (hs : r.state = .seeding)
    (hn : n ≤ Config.maxCount) : ChanCore st isRef (seedCount paused n r) := by
  obtain ⟨⟨sum, k⟩, hseed⟩ := Option.isSome_iff_exists.mp (h.seed_iff.mpr hs)
  have hrange := h.seed_range
  rw [hseed] at hrange
  simp only [Option.all_some, Bool.and_eq_true, decide_eq_true_eq] at hrange
  obtain ⟨hk, hsum⟩ := hrange
  have hmax : Config.maxCount = 4095 := rfl
  have hrun : Config.seedRun = 16 := rfl
  rw [seedCount_eq hseed]
  split
  · exact h
  · split
    · refine { h with
        seed_iff := iff_of_true rfl hs
        seed_range := ?_ }
      simp only [Option.all_some, Bool.and_eq_true, decide_eq_true_eq]
      rw [hmax] at hsum hn ⊢
      omega
    · exact { h with
        baseline := decide_eq_true (by rw [hmax] at hsum hn ⊢; omega)
        inRange_iff := iff_of_false (fun hc => by have := h.inRange_iff.mp hc; rw [hs] at this; cases this) nofun
        seed_iff := iff_of_false nofun nofun
        seed_range := rfl
        hold := fun hc => by have := h.hold hc; rw [hs] at this; cases this
        antiTouch := show 0 < Config.antiTouchRun by decide
        touch := .inl rfl
        lift := .inl rfl
        drift := .inl rfl
        noDelta := fun hc => by obtain hc | hc := hc <;> cases hc }

/-- What a tracking step writes in IDLE. -/
theorem ChanCore.tracked {anti : Nat} {acc : Int} {delta : Option Int} (h : ChanCore st isRef r) (hs : r.state = .idle)
    (hb : b ≤ Config.maxCount) (hanti : anti < Config.antiTouchRun)
    (hacc : acc = 0 ∨ (-(st.driftPeriod : Int) < acc ∧ acc < (st.driftPeriod : Int))) :
    ChanCore st isRef { r with baseline := some b, drift := acc, antiTouch := anti, delta := delta } :=
  { h with
    baseline := decide_eq_true hb
    antiTouch := hanti
    drift := hacc
    noDelta := fun hc => by
      rw [show ({ r with baseline := some b, drift := acc, antiTouch := anti, delta := delta } : Chan).state = .idle
        from hs] at hc
      obtain hc | hc := hc <;> cases hc }

theorem ChanCore.baseline_le (h : ChanCore st isRef r) (hbaseline : r.baseline = some b) : b ≤ Config.maxCount := by
  have hb := h.baseline
  rw [hbaseline] at hb
  exact of_decide_eq_true hb

/-- A drift step stays in range (02, R27). -/
theorem driftStep_range {period : Nat} {acc : Int} (hb : b ≤ Config.maxCount) (hn : n ≤ Config.maxCount)
    (hacc : acc = 0 ∨ (-(period : Int) < acc ∧ acc < (period : Int))) :
    (driftStep period b n acc).1 ≤ Config.maxCount
      ∧ ((driftStep period b n acc).2 = 0 ∨ (-(period : Int) < (driftStep period b n acc).2
        ∧ (driftStep period b n acc).2 < (period : Int))) := by
  rw [driftStep_eq]
  split_ifs <;> refine ⟨?_, ?_⟩ <;> dsimp only <;> omega

theorem ChanCore.trackIdle (h : ChanCore st isRef r) (hs : r.state = .idle) (hn : n ≤ Config.maxCount)
    (hbaseline : r.baseline = some b) : ChanCore st isRef (trackIdle st.driftPeriod b n r) := by
  obtain ⟨hstep, hdrift⟩ := driftStep_range (n := n) (h.baseline_le hbaseline) hn h.drift
  unfold Machine.trackIdle
  dsimp only
  generalize (if b + r.setup.touchThreshold ≤ n then r.antiTouch + 1 else 0) = anti
  split
  next => exact h.tracked hs hn (show 0 < Config.antiTouchRun by decide) (.inl rfl)
  next hanti => exact h.tracked hs hstep (Nat.not_le.mp hanti) hdrift

theorem trackIdle_deltaRight (isRef : Bool) (period : Nat) (hcount : r.count = some n) :
    DeltaRight isRef (trackIdle period b n r) := by
  unfold trackIdle
  dsimp only
  generalize (if b + r.setup.touchThreshold ≤ n then r.antiTouch + 1 else 0) = anti
  split
  next =>
    have hzero : deltaOf n n = 0 := by simp [deltaOf]
    refine .inr (.inr (.inr ?_))
    simp [hcount, hzero]
  next => exact .inr (.inr (.inr (by simp [hcount])))

/-- The delta of a count seen against its baseline. -/
theorem deltaRight_seen (isRef : Bool) (hbaseline : r.baseline = some b) (hcount : r.count = some n)
    (hdelta : r.delta = some (deltaOf b n)) : DeltaRight isRef r :=
  .inr (.inr (.inr (by rw [hbaseline, hcount, hdelta]; rfl)))

/-- A record of a state that has a delta, with its delta seen against the baseline (02, R20). -/
theorem ChanCore.seen (h : ChanCore st isRef r) (hs : r.state ≠ .off ∧ r.state ≠ .seeding)
    (hbaseline : r.baseline = some b) (hcount : r.count = some n) :
    ChanCore st isRef { r with delta := some (deltaOf b n) }
      ∧ DeltaRight isRef { r with delta := some (deltaOf b n) } :=
  ⟨h.withDelta hs, deltaRight_seen isRef (r := { r with delta := some (deltaOf b n) }) hbaseline hcount rfl⟩

theorem idleCount_coherent (h : ChanCore st isRef r) (hs : r.state = .idle) (hn : n ≤ Config.maxCount)
    (hcount : r.count = some n) (hbaseline : r.baseline = some b) :
    ChanCore st isRef (idleCount st hushed n b r).1 ∧ DeltaRight isRef (idleCount st hushed n b r).1 := by
  obtain ⟨hseen, hright⟩ := h.seen (by rw [hs]; decide) hbaseline hcount
  have hstate : ({ r with delta := some (deltaOf b n) } : Chan).state ≠ .faulted
      ∧ ({ r with delta := some (deltaOf b n) } : Chan).state ≠ .seeding := by
    rw [show ({ r with delta := some (deltaOf b n) } : Chan).state = .idle from hs]
    decide
  have hhold : r.holdTimer = none := h.hold_none (by rw [hs]; decide)
  unfold idleCount
  dsimp only
  split
  · exact ⟨hseen, hright⟩
  · split
    · split
      · exact ⟨{ hseen.toCandidate hstate hhold with antiTouch := show 0 < Config.antiTouchRun by decide },
          hright.of_same hstate.1 rfl rfl rfl⟩
      · next hmore =>
        refine ⟨{ hseen.withState (state := .arming) (hold := r.holdTimer) hstate (by decide)
            (fun hc => by rw [hhold] at hc; cases hc) with
          antiTouch := show 0 < Config.antiTouchRun by decide
          touch := .inr (Nat.not_le.mp hmore) }, hright.of_same hstate.1 rfl rfl rfl⟩
    · exact ⟨h.trackIdle hs hn hbaseline, trackIdle_deltaRight isRef _ hcount⟩

theorem armingCount_coherent (h : ChanCore st isRef r) (hs : r.state = .arming) (hcount : r.count = some n)
    (hbaseline : r.baseline = some b) :
    ChanCore st isRef (armingCount st n b r).1 ∧ DeltaRight isRef (armingCount st n b r).1 := by
  obtain ⟨hseen, hright⟩ := h.seen (by rw [hs]; decide) hbaseline hcount
  have hstate : ({ r with delta := some (deltaOf b n) } : Chan).state ≠ .faulted
      ∧ ({ r with delta := some (deltaOf b n) } : Chan).state ≠ .seeding := by
    rw [show ({ r with delta := some (deltaOf b n) } : Chan).state = .arming from hs]
    decide
  have hhold : r.holdTimer = none := h.hold_none (by rw [hs]; decide)
  unfold armingCount
  dsimp only
  split
  · split
    · exact ⟨hseen.toCandidate hstate hhold, hright.of_same hstate.1 rfl rfl rfl⟩
    · next hmore =>
      exact ⟨{ hseen with touch := .inr (Nat.not_le.mp hmore) }, hright.of_same hstate.1 rfl rfl rfl⟩
  · exact ⟨hseen.toIdle hstate, hright.of_same hstate.1 rfl rfl rfl⟩

theorem claimSideCount_coherent (h : ChanCore st isRef r) (hs : claimSide r.state = true) (hcount : r.count = some n)
    (hbaseline : r.baseline = some b) :
    ChanCore st isRef (claimSideCount st n b r).1 ∧ DeltaRight isRef (claimSideCount st n b r).1 := by
  have hoff : r.state ≠ .off := by rintro hc; rw [hc] at hs; cases hs
  obtain ⟨hseen, hright⟩ := h.seen ⟨hoff, (claimSide_only hs).2⟩ hbaseline hcount
  unfold claimSideCount
  dsimp only
  split
  · split
    · exact ⟨{ hseen with lift := .inl rfl }, hright.of_same (claimSide_only hs).1 rfl rfl rfl⟩
    · next hmore =>
      exact ⟨{ hseen with lift := .inr (Nat.not_le.mp hmore) }, hright.of_same (claimSide_only hs).1 rfl rfl rfl⟩
  · exact ⟨{ hseen with lift := .inl rfl }, hright.of_same (claimSide_only hs).1 rfl rfl rfl⟩

/-- A count of a record with no baseline, outside SEEDING, is not judged (02, R20). -/
theorem processCount_of_none (hs : r.state ≠ .seeding) (hbaseline : r.baseline = none) :
    processCount st hushed n r = (r, .none) := by
  unfold processCount
  rw [hbaseline]
  cases h : r.state with
  | seeding => exact absurd h hs
  | _ => rfl

/-- What a processed count keeps: the record is coherent, and its delta is right (02, R19, R20). -/
theorem processCount_coherent (h : ChanCore st isRef r) (hn : n ≤ Config.maxCount) (hcount : r.count = some n)
    (hfaulted : r.state ≠ .faulted) (hoff : r.state ≠ .off) (hold : r.baseline = none → r.delta = none) :
    ChanCore st isRef (processCount st hushed n r).1 ∧ DeltaRight isRef (processCount st hushed n r).1 := by
  by_cases hs : r.state = .seeding
  · have hcounted : (processCount st hushed n r).1 = seedCount hushed n r := by simp only [processCount, hs]
    rw [hcounted]
    refine ⟨h.seedCount hs hn, ?_⟩
    obtain ⟨⟨sum, k⟩, hseed⟩ := Option.isSome_iff_exists.mp (h.seed_iff.mpr hs)
    rw [seedCount_eq hseed]
    have hnone : r.delta = none := h.noDelta (.inr hs)
    split
    · exact .inr (.inr (.inl hnone))
    · split
      · exact .inr (.inr (.inl hnone))
      · exact deltaRight_seen isRef rfl hcount rfl
  · cases hbaseline : r.baseline with
    | none =>
      rw [processCount_of_none hs hbaseline]
      exact ⟨h, .inr (.inr (.inl (hold hbaseline)))⟩
    | some b =>
      by_cases hside : claimSide r.state = true
      · rw [processCount_claimSide hside hbaseline]
        exact claimSideCount_coherent h hside hcount hbaseline
      · cases hstate : r.state with
        | idle =>
          rw [processCount_idle hstate hbaseline]
          exact idleCount_coherent h hstate hn hcount hbaseline
        | arming =>
          rw [processCount_arming hstate hbaseline]
          exact armingCount_coherent h hstate hcount hbaseline
        | off => exact absurd hstate hoff
        | seeding => exact absurd hstate hs
        | faulted => exact absurd hstate hfaulted
        | candidate | contending | pressed | suppressed => exact absurd (by rw [hstate]; rfl) hside

end

end Sys2Proof.Machine
end

section
/-! PROOF. Every event keeps every channel record coherent (01, R1, R11 to R15; 02, R20 to R32; 04, R79): by moves,
by the counts, and by a start. -/

namespace Sys2Proof.Machine

section
variable {s t u : State} {c : Channel} {n : Nat} {r : Chan} {on : Bool}

/-! ### By moves and by one record written -/

theorem ChannelInv.moves (h : ChannelInv s) (hm : Moves on s t)
    (hsettings : t.tracker.settings = s.tracker.settings) : ChannelInv t := by
  obtain ⟨hchans, hkeys⟩ := h
  refine ⟨fun c => ?_, fun c hc => ?_⟩
  · obtain ⟨hcore, hright⟩ := chanInv_iff.mp (hchans c)
    rw [hsettings]
    exact chanInv_iff.mpr ⟨(hm c).core hcore, (hm c).deltaRight hright⟩
  · rw [hm.isKey hsettings]
    exact hkeys c ((hm c).touched hc)

/-- What a count may make of the record of channel `c`. -/
def Coherent (s : State) (c : Channel) (r : Chan) : Prop :=
  ChanCore s.tracker.settings (decide (s.tracker.settings.refHost = some c)) r
    ∧ DeltaRight (decide (s.tracker.settings.refHost = some c)) r

theorem ChannelInv.coherent (h : ChannelInv s) (c : Channel) : Coherent s c s.chans[c] := chanInv_iff.mp (h.1 c)

theorem ChannelInv.write (h : ChannelInv s) (hu : u.chans = s.chans.set c r)
    (hsettings : u.tracker.settings = s.tracker.settings) (hsetup : r.setup = s.chans[c].setup)
    (hr : Coherent s c r) (hkey : r.state = .arming ∨ claimSide r.state = true → s.isKey c = true) : ChannelInv u := by
  have hget (d : Channel) : u.chans[d] = if c = d then r else s.chans[d] := by rw [hu, set_get]
  have hkeys (d : Channel) : u.isKey d = s.isKey d := by
    unfold State.isKey
    rw [hsettings, hget]
    split
    next hd => subst hd; rw [hsetup]
    next => rfl
  refine ⟨fun d => ?_, fun d hd => ?_⟩
  · rw [hsettings, hget]
    split
    next hd => subst hd; exact chanInv_iff.mpr hr
    next => exact h.1 d
  · rw [hkeys]
    rw [hget] at hd
    split at hd
    next hcd => subst hcd; exact hkey hd
    next => exact h.2 d hd

/-! ### By a count (02, R19) -/

/-- The record with its count and rail run taken, before its state has processed the count. -/
theorem ChanCore.countedChan {st : Settings} {isRef : Bool} (h : ChanCore st isRef s.chans[c])
    (hn : n ≤ Config.maxCount) (hrail : railAfter s.chans[c].rail n < 16) : ChanCore st isRef (countedChan s c n) :=
  h.counted hn hrail

theorem ChanCore.toFaulted {st : Settings} {isRef : Bool} (h : ChanCore st isRef r) : ChanCore st isRef (toFaulted r) :=
  { h with
    rail := show 0 < Config.railRun by decide
    inRange_iff := iff_of_true rfl rfl
    inRange_lt := rfl
    seed_iff := iff_of_false nofun nofun
    seed_range := rfl
    hold := nofun
    deviation := nofun
    antiTouch := show 0 < Config.antiTouchRun by decide
    touch := .inl rfl
    lift := .inl rfl
    noDelta := fun hc => by obtain hc | hc := hc <;> cases hc }

theorem faultedCount_channelInv (h : ChannelInv s) (hs : s.chans[c].state = .faulted) (hn : n ≤ Config.maxCount) :
    ChannelInv (faultedCount c n s) := by
  obtain ⟨hcore, -⟩ := h.coherent c
  have hcounted := hcore.counted (rail := s.chans[c].rail) hn hcore.rail
  unfold faultedCount
  dsimp only
  split
  next =>
    refine h.write (r := faultedToSeeding { s.chans[c] with count := some n }) rfl rfl rfl
      ⟨hcounted.recovered, .inr (.inr (.inl rfl))⟩ ?_
    rintro (hc | hc) <;> cases hc
  next hmore =>
    refine h.write (r := { s.chans[c] with
      count := some n, inRange := some (inRangeAfter n { s.chans[c] with count := some n }) }) rfl rfl rfl
      ⟨{ hcounted with inRange_iff := iff_of_true rfl hs, inRange_lt := decide_eq_true (Nat.not_le.mp hmore) },
        .inr (.inl hs)⟩ ?_
    intro hc
    exact h.2 c hc

/-- A lift is signalled on the claim side alone (02, R32). -/
theorem processCount_lifted {st : Settings} {hushed : Bool} (h : (processCount st hushed n r).2 = .lifted) :
    claimSide (processCount st hushed n r).1.state = true := by
  by_cases hside : claimSide r.state = true
  · cases hbaseline : r.baseline with
    | none =>
      rw [processCount_of_none (claimSide_only hside).2 hbaseline] at h
      cases h
    | some b =>
      rw [processCount_claimSide hside hbaseline]
      unfold claimSideCount
      dsimp only
      split_ifs <;> exact hside
  · exfalso
    unfold processCount at h
    split at h
    next => cases h
    next => unfold idleCount at h; dsimp only at h; split_ifs at h
    next => unfold armingCount at h; dsimp only at h; split_ifs at h
    next hs _ => exact hside (by rw [hs]; rfl)
    next hs _ => exact hside (by rw [hs]; rfl)
    next hs _ => exact hside (by rw [hs]; rfl)
    next hs _ => exact hside (by rw [hs]; rfl)
    next => cases h

theorem carryOut_chans (c : Channel) (out : Chan × Signal) (s : State) : (carryOut c out s).chans
    = s.chans.set c (if out.2 = .lifted then toIdle out.1 else out.1) := by
  obtain ⟨r, signal⟩ := out
  cases signal <;> simp [carryOut]

theorem KeyCounted.channelInv (hcounted : KeyCounted c n s u) (h : ChannelInv s) (hkey : s.isKey c = true)
    (hn : n ≤ Config.maxCount) : ChannelInv u := by
  obtain ⟨hcore, hright⟩ := h.coherent c
  cases hcounted with
  | off hs =>
    refine h.write (r := { s.chans[c] with count := some n }) rfl rfl rfl
      ⟨hcore.counted (rail := s.chans[c].rail) hn hcore.rail, .inr (.inr (.inl (hcore.noDelta (.inl hs))))⟩
        fun _ => hkey
  | faulted hs => exact faultedCount_channelInv h hs hn
  | faults =>
    have hwritten : (keyFault c n s).chans = s.chans.set c (Machine.toFaulted { s.chans[c] with count := some n }) := by
      simp [keyFault]
    have hsettings : (keyFault c n s).tracker.settings = s.tracker.settings := by simp [keyFault]
    refine h.write hwritten hsettings rfl
      ⟨(hcore.counted (rail := s.chans[c].rail) hn hcore.rail).toFaulted, .inr (.inl rfl)⟩ ?_
    rintro (hc | hc) <;> cases hc
  | counts hoff hfaulted hrail =>
    have hold : s.chans[c].baseline = none → s.chans[c].delta = none := fun hb => by
      have hnotRef : ¬ s.tracker.settings.refHost = some c := by
        simp only [State.isKey, Bool.and_eq_true, decide_eq_true_eq] at hkey
        exact hkey.2
      obtain hc | hc | hc | hc := hright
      · exact absurd (of_decide_eq_true hc) hnotRef
      · exact absurd hc hfaulted
      · exact hc
      · rw [hc, hb]
        rfl
    have hout := processCount_coherent (hushed := s.tracker.hushed) (hcore.countedChan hn hrail) hn rfl
      hfaulted hoff hold
    have hsetup := processCount_setup s.tracker.settings s.tracker.hushed n (countedChan s c n)
    have hlifted := processCount_lifted (st := s.tracker.settings) (hushed := s.tracker.hushed) (n := n)
      (r := countedChan s c n)
    generalize processCount s.tracker.settings s.tracker.hushed n (countedChan s c n) = out at hout hsetup hlifted ⊢
    obtain ⟨houtCore, houtRight⟩ := hout
    refine h.write (carryOut_chans c out s) (by simp) ?_ ?_ fun _ => hkey
    · split
      · exact hsetup
      · exact hsetup
    · split
      next hl =>
        have hside := claimSide_only (hlifted hl)
        exact ⟨houtCore.toIdle hside, houtRight.of_same hside.1 rfl rfl rfl⟩
      next => exact ⟨houtCore, houtRight⟩

/-- A deviation written in the reference record. -/
theorem ChanCore.withDeviation {st : Settings} {deviation : Option Nat} (h : ChanCore st true r) :
    ChanCore st true { r with deviation := deviation } :=
  { h with deviation := fun _ => rfl }

theorem refSeedCount_state (n : Nat) (r : Chan) : (refSeedCount n r).state = (seedCount false n r).state := by
  unfold refSeedCount
  dsimp only
  split <;> rfl

theorem seedCount_state {paused : Bool} (hs : r.state = .seeding) :
    (seedCount paused n r).state = .seeding ∨ (seedCount paused n r).state = .idle := by
  unfold seedCount
  dsimp only
  split_ifs
  · exact .inl hs
  · exact .inr rfl
  · exact .inl hs

theorem ChanCore.refSeedCount {st : Settings} (h : ChanCore st true r) (hs : r.state = .seeding)
    (hn : n ≤ Config.maxCount) : ChanCore st true (refSeedCount n r) := by
  have hseeded := h.seedCount (paused := false) hs hn
  unfold Machine.refSeedCount
  dsimp only
  split
  next => exact { hseeded with deviation := fun _ => rfl, noDelta := fun _ => rfl }
  next => exact hseeded

theorem hushOn_moves (deviation : Nat) (s : State) : Moves on s (hushOn deviation s) := by
  refine .each (f := fun _ r => hushedChan r) (by rw [hushOn_eq]) fun c => ?_
  rw [hushedChan_eq]
  split
  next h => exact .idle (h.imp_right fun h => by rw [h]; rfl)
  next => exact .refl _

theorem RefCounted.channelInv (hcounted : RefCounted c n s u) (h : ChannelInv s)
    (href : s.tracker.settings.refHost = some c) (hn : n ≤ Config.maxCount) : ChannelInv u := by
  have hcoherent := h.coherent c
  simp only [Coherent, decide_eq_true href] at hcoherent
  obtain ⟨hcore, -⟩ := hcoherent
  have hwrite {v : State} {r : Chan} (hv : v.chans = s.chans.set c r)
      (hsettings : v.tracker.settings = s.tracker.settings) (hsetup : r.setup = s.chans[c].setup)
      (hr : ChanCore s.tracker.settings true r)
      (hstate : r.state = .arming ∨ claimSide r.state = true → r.state = s.chans[c].state) : ChannelInv v := by
    refine h.write hv hsettings hsetup ?_ fun hc => h.2 c (by rw [← hstate hc]; exact hc)
    simp only [Coherent, decide_eq_true href]
    exact ⟨hr, .inl rfl⟩
  cases hcounted with
  | off hs =>
    exact hwrite (r := { s.chans[c] with count := some n }) rfl rfl rfl
      (hcore.counted (rail := s.chans[c].rail) hn hcore.rail) fun _ => rfl
  | faulted hs => exact faultedCount_channelInv h hs hn
  | faults =>
    refine hwrite (r := Machine.toFaulted { s.chans[c] with count := some n }) (by rw [refFault_eq])
      (RefCounted.settings (.faults ‹_› ‹_›)) rfl (hcore.counted (rail := s.chans[c].rail) hn hcore.rail).toFaulted ?_
    rintro (hc | hc) <;> cases hc
  | seeds hs hrail =>
    refine hwrite (r := Machine.refSeedCount n (countedChan s c n)) rfl rfl (refSeedCount_setup n _)
      ((hcore.countedChan hn hrail).refSeedCount hs hn) ?_
    intro hc
    rw [refSeedCount_state] at hc
    obtain h | h := seedCount_state (paused := false) (n := n) (r := countedChan s c n) hs
    · rw [h] at hc
      obtain hc | hc := hc <;> cases hc
    · rw [h] at hc
      obtain hc | hc := hc <;> cases hc
  | @hushed b hs hbaseline hhushed hrail =>
    have hcounted := (hcore.countedChan hn hrail).withDeviation (deviation := some (deviationOf b n))
    rw [refHushedCount_eq]
    split_ifs
    · exact hwrite rfl rfl rfl hcounted fun _ => rfl
    · exact hwrite rfl rfl rfl hcounted fun _ => rfl
    · exact hwrite rfl rfl rfl hcounted fun _ => rfl
  | @quiet b hs hbaseline hhushed hrail =>
    have hcounted := hcore.countedChan hn hrail
    unfold refIdleCount
    split
    next =>
      have hwritten : ChannelInv (s.setChan c { countedChan s c n with deviation := some (deviationOf b n) }) :=
        hwrite rfl rfl rfl (hcounted.withDeviation (deviation := some (deviationOf b n))) fun _ => rfl
      exact hwritten.moves (hushOn_moves (on := false) _ _) (by rw [hushOn_eq])
    next =>
      obtain ⟨hstep, hdrift⟩ := driftStep_range (n := n) (hcounted.baseline_le hbaseline) hn hcounted.drift
      have htracked := (hcounted.tracked (delta := s.chans[c].delta) hs hstep hcounted.antiTouch hdrift).withDeviation
        (deviation := some (deviationOf (driftStep s.tracker.settings.driftPeriod b n (countedChan s c n).drift).1 n))
      exact hwrite rfl rfl rfl htracked fun _ => rfl
  | other hoff hfaulted hseeding hrail =>
    exact hwrite (r := countedChan s c n) rfl rfl rfl (hcore.countedChan hn hrail) fun _ => rfl

end

end Sys2Proof.Machine
end

section
/-! PROOF. The channel records through every step (01, 02, 04). -/

namespace Sys2Proof.Machine

section
variable {s t u : State} {on : Bool}

/-! ### A start (01, R10; 02, R41) -/

theorem enterSeeding_chans (s : State) : (enterSeeding s).chans = startedChans s.ctrl.block s.chans := by
  rw [enterSeeding_eq, (leavesSeeding_keeps _).1]
  rfl

theorem enterSeeding_tracker (s : State) : (enterSeeding s).tracker
    = { hushed := false, settle := none, settings := settingsOf s.ctrl.block } := by
  rw [enterSeeding_eq, (leavesSeeding_keeps _).2.1]
  rfl

/-- A record that seeds from a start on. -/
theorem chanInv_seedingFresh (st : Settings) (isRef : Bool) (setup : ChannelSetup) {count : Option Nat}
    (hcount : (count.all fun n => decide (n ≤ Config.maxCount)) = true) :
    ChanInv st isRef (seedingFresh setup count) := by
  refine chanInv_iff.mpr ⟨?_, .inr (.inr (.inl rfl))⟩
  exact {
    count := hcount
    baseline := rfl
    rail := show 0 < Config.railRun by decide
    inRange_iff := iff_of_false nofun nofun
    inRange_lt := rfl
    seed_iff := iff_of_true rfl rfl
    seed_range := by simp [seedingFresh, Config.seedRun]
    hold := nofun
    deviation := nofun
    antiTouch := show 0 < Config.antiTouchRun by decide
    touch := .inl rfl
    lift := .inl rfl
    drift := .inl rfl
    noDelta := fun _ => rfl }

theorem enterSeeding_channelInv
    (hcount : ∀ c : Channel, (s.chans[c].count.all fun n => decide (n ≤ Config.maxCount)) = true) :
    ChannelInv (enterSeeding s) := by
  refine ⟨fun c => ?_, fun c hc => ?_⟩
  · rw [enterSeeding_chans, startedChans_get]
    split
    · exact chanInv_seedingFresh _ _ _ (hcount c)
    · exact chanInv_offChan _ _ _
  · rw [enterSeeding_chans, startedChans_get] at hc
    split at hc <;> obtain hc | hc := hc <;> cases hc

/-! ### The events -/

/-- What an event does to the channel records: moves, one count, or a start. -/
inductive RecordsWay (on : Bool) (s : State) : State → Prop
  | moved {t : State} (hm : Moves on s t) (hsettings : t.tracker.settings = s.tracker.settings) : RecordsWay on s t
  | converted (slot : Slot) (n : Nat) (hconv : s.front.conversion = some (slot, 0)) (hn : n ≤ Config.maxCount) :
      RecordsWay on s (scanProceeds slot (seedingReport (slotConversion slot n s)))
  | started (u : State) (hchans : u.chans = s.chans) : RecordsWay on s (enterSeeding u)

theorem RecordsWay.of_chans (hchans : t.chans = s.chans) (hsettings : t.tracker.settings = s.tracker.settings) :
    RecordsWay on s t := .moved (.of_eq hchans) hsettings

theorem heardBy_settings (f : Frame) (s : State) : (heardBy f s).tracker.settings = s.tracker.settings := by
  unfold heardBy tableHears
  split <;> (try split) <;> simp [recalHeard_settings]

theorem enterStopped_settings (st : StationState) (s : State) :
    (enterStopped st s).tracker.settings = s.tracker.settings := by rw [enterStopped_eq]

theorem deliver_settings (f : Frame) (own : Option TxSlot) (s : State) :
    (deliver f own s).tracker.settings = s.tracker.settings := by
  cases own with
  | none => simpa [deliver_none] using heardBy_settings f s
  | some slot =>
    rw [deliver_own]
    split
    · rw [enterStopped_settings]
      simpa [succeededBy] using heardBy_settings f s
    · simpa [succeededBy] using heardBy_settings f s

theorem attemptEndHandled_settings (slot : TxSlot) (s : State) :
    (attemptEndHandled slot s).tracker.settings = s.tracker.settings := by
  unfold attemptEndHandled
  split <;> simp

theorem failAttempt_settings (slot : TxSlot) (s : State) :
    (failAttempt slot s).tracker.settings = s.tracker.settings := by
  unfold failAttempt
  dsimp only
  split
  · split
    · rw [enterStopped_settings]
    · rw [enterMuted_eq]
  · rw [attemptEndHandled_settings]

theorem abandonExpires_settings (g : Group) (s : State) :
    (abandonExpires g s).tracker.settings = s.tracker.settings := by
  unfold abandonExpires
  split
  · simp
  · rfl

theorem peerExpires_settings (p : Station) (s : State) : (peerExpires p s).tracker.settings = s.tracker.settings := by
  unfold peerExpires
  split
  · simp
  · rfl

/-- Everything an event does to the channel records; CONTENDING and PRESSED are entered with an attempt of this
station's own alone. -/
theorem Change.recordsWay (hc : Change s t) (hon : s.link.attempt.isSome = true → on = true) : RecordsWay on s t := by
  cases hc with
  | nothing | taken | discarded | turnedIdle | startBit | attemptStarted | setupRefused | recalQueued | cleared =>
    exact .of_chans rfl rfl
  | waited | contestEnded | intervalEnded | quietEnded | muteEnded | leaveAsked =>
    exact .of_chans (by simp) (by simp)
  | converted slot n hconv hn => exact .converted slot n hconv hn
  | ownHeard a hwf hrecv hatt =>
    exact .moved (deliver_moves on s _ fun _ => hon (by rw [hatt]; rfl)) (deliver_settings _ _ s)
  | peerHeard f hwf hrecv hnone hpeer =>
    exact .moved (deliver_moves on s _ fun h => absurd h hpeer) (deliver_settings _ _ s)
  | twinHeard | left => exact .moved (enterStopped_moves on s _) (enterStopped_settings _ s)
  | attemptFailed a => exact .moved (failAttempt_moves on s _) (failAttempt_settings _ s)
  | arbitrationLost a bit =>
    have hlost : Moves on s { s with
        queue := queueEnd a.slot s.queue
        link := { s.link with
          line := .receiving (bitsReadAtLoss a.frame bit), attempt := none, linkLow := false } } := .refl s
    exact .moved (hlost.trans rfl (attemptEndHandled_moves on _ _)) (attemptEndHandled_settings _ _)
  | abandonEnded g => exact .moved (abandonExpires_moves on s g) (abandonExpires_settings g s)
  | guardEnded g =>
    have hfreed : Moves on s (s.setEntry g .free) := .refl s
    exact .moved (hfreed.trans rfl (handOnChanges_moves on _ _)) (by simp)
  | holdEnded c hstate => exact .moved (holdEnded_moves on s hstate) (by simp)
  | peerLost p => exact .moved (peerExpires_moves on s p) (peerExpires_settings p s)
  | joined => exact .started _ rfl
  | rejoined => exact .started _ rfl
  | restarted => exact .started (countersCleared s) rfl
  | listenEnded => exact .moved (enterOnline_moves on s) (by rw [enterOnline_eq]; simp [onlineEntered])
  | reseeded c hkey hoff => exact .moved (reseedChannel_moves on s hoff) (by simp [reseedChannel])

/-! ### A conversion, by the scan list (01, R1) -/

theorem keyConversion_channelInv {c : Channel} {n : Nat} (h : ChannelInv s) (hkey : s.isKey c = true)
    (hn : n ≤ Config.maxCount) : ChannelInv (keyConversion c n s) := by
  have hcounted := (keyCount_cases c n s).channelInv h hkey hn
  unfold keyConversion
  generalize keyCount c n s = u at hcounted ⊢
  have htracker (which : Group → Bool) : (evaluate which u).tracker = u.tracker := by simp
  exact hcounted.moves (evaluate_moves false u _) (by rw [htracker])

theorem slotConversion_channelInv {slot : Slot} {n : Nat} (h : ChannelInv s) (hn : n ≤ Config.maxCount)
    (hkey : ∀ c, slot = .channel c → s.isKey c = true) : ChannelInv (slotConversion slot n s) := by
  unfold slotConversion
  split
  next c => exact keyConversion_channelInv h (hkey c rfl) hn
  next =>
    split
    next c href => exact (refConversion_cases c n s).channelInv h href hn
    next => exact h

/-- The slot being converted is a key channel's or the reference's (01, R1). -/
theorem FrontInv.converted_isKey {slot : Slot} {us : Nat} (h : FrontInv s)
    (hconv : s.front.conversion = some (slot, us))
    (c : Channel) (hc : slot = .channel c) : s.isKey c = true := by
  obtain ⟨-, -, -, hposition, hlisted, hkeys, -⟩ := h
  rw [hconv] at hposition
  rw [← hposition] at hlisted
  have hmem : slot ∈ s.front.scanList := of_decide_eq_true hlisted
  exact hkeys c (hc ▸ hmem)

theorem RecordsWay.channelInv (hway : RecordsWay on s t) (hfront : FrontInv s) (h : ChannelInv s) : ChannelInv t := by
  cases hway with
  | moved hm hsettings => exact h.moves hm hsettings
  | converted slot n hconv hn =>
    have hconverted := slotConversion_channelInv h hn (hfront.converted_isKey hconv)
    have hchans : (scanProceeds slot (seedingReport (slotConversion slot n s))).chans =
      (slotConversion slot n s).chans := by
      rw [scanProceeds_eq, seedingReport_eq]
      exact (leavesSeeding_keeps _).1
    have htracker : (scanProceeds slot (seedingReport (slotConversion slot n s))).tracker
        = (slotConversion slot n s).tracker := by
      rw [scanProceeds_eq, seedingReport_eq]
      exact (leavesSeeding_keeps _).2.1
    exact hconverted.moves (.of_eq (on := false) hchans) (by rw [htracker])
  | started u hchans =>
    refine enterSeeding_channelInv fun c => ?_
    rw [hchans]
    exact (h.coherent c).1.count

theorem idle_moves (s : State) : Moves on s (idle s) := by
  unfold idle
  split
  · exact .refl s
  · exact elapse_moves on s _

theorem idle_settings (s : State) : (idle s).tracker.settings = s.tracker.settings := by
  unfold idle
  split <;> rfl

theorem StepWay.channelInv (hway : StepWay s t) (hfront : FrontInv s) (h : ChannelInv s) : ChannelInv t := by
  cases hway with
  | idled => exact h.moves (idle_moves (on := false) s) (idle_settings s)
  | ticked => exact h.moves (elapse_moves false s (msUs - s.sinceTick)) rfl
  | reset straps => exact channelInv_reset straps
  | held => exact channelInv_reset s.ctrl.straps
  | setupWritten => exact h
  | changed hc port => exact (hc.recordsWay (on := true) fun _ => rfl).channelInv hfront h

end

/-- Settles O54: every event moves the records, processes one count, or starts them afresh. -/
theorem everyStepKeepsTheChannelsCoherent : Obligations.EveryStepKeepsTheChannelsCoherent := by
  intro s t hfront h hstep
  obtain ⟨rest, hway⟩ := step_way hstep
  exact hway.channelInv hfront h

end Sys2Proof.Machine
end

section
/-! PROOF. Outside ONLINE the queue stays empty: every request is refused, and nothing is withdrawn (06, R118). -/

namespace Sys2Proof.Machine

section
variable {s : State}

theorem online_eq_false (h : s.ctrl.state ≠ .online) : s.online = false := by
  rw [← Bool.not_eq_true, online_iff]
  exact h

theorem requestPulse_offline (h : s.ctrl.state ≠ .online) (routine : Bool) : s.requestPulse routine = s := by
  simp [State.requestPulse, online_eq_false h]

theorem requestConfirm_offline (h : s.ctrl.state ≠ .online) (g : Group) (c : Channel) : s.requestConfirm g c = s := by
  simp [State.requestConfirm, online_eq_false h]

theorem requestRelease_offline (h : s.ctrl.state ≠ .online) (g : Group) (c : Channel) (reason : Reason) :
    s.requestRelease g c reason = s := by
  simp [State.requestRelease, online_eq_false h]

theorem leaveClaimSide_offline (h : s.ctrl.state ≠ .online) (reason : Reason) (c : Channel) :
    (leaveClaimSide reason c s).queue = s.queue := by
  unfold leaveClaimSide
  dsimp only
  split
  · rw [requestRelease_offline h, ite_self]
  · rw [requestRelease_offline (by simpa using h)]
    simp
  · rw [requestRelease_offline h]
  · rfl

theorem changeCadence_offline (h : s.ctrl.state ≠ .online) (c : Cadence) : (changeCadence c s).queue = s.queue := by
  rw [changeCadence, requestPulse_offline (by exact h)]
  rfl

theorem activity_offline (h : s.ctrl.state ≠ .online) (isLocal : Bool) : (activity isLocal s).queue = s.queue := by
  cases isLocal with
  | true => rw [activity_true_eq]; exact if_neg fun hc => h hc.2
  | false => rw [activity_false_eq]; exact if_neg fun hc => h hc.2

theorem cadenceHears_offline (h : s.ctrl.state ≠ .online) (f : Frame) (old : Vector Entry 8) :
    (cadenceHears f old s).queue = s.queue := by
  unfold cadenceHears
  dsimp only
  have hreport : (if isRecal f || anyChanged old s.table.entries then reportTable s else s).queue = s.queue := by
    split <;> simp
  have hctrl : (if isRecal f || anyChanged old s.table.entries then reportTable s else s).ctrl = s.ctrl := by
    split <;> simp
  split
  · rw [activity_offline (by rwa [hctrl]), hreport]
  · exact hreport

/-! ### The empty queue (06, R111, R112) -/

theorem emptyQueue_slot (g : Group) : emptyQueue.groups[g] = emptySlot := by
  show (Vector.replicate 8 emptySlot)[g] = _
  simp

theorem withdrawFor_empty (g : Group) (c : Channel) : withdrawFor g c emptyQueue = emptyQueue := by
  simp only [withdrawFor, followUpNames, frameNames, emptyQueue_slot, emptySlot, Bool.false_eq_true, if_false]

theorem withdrawGroup_empty (g : Group) : withdrawGroup g emptyQueue = emptyQueue := by
  have hself : setSlot emptyQueue g emptySlot = emptyQueue := by
    rw [← emptyQueue_slot g]
    exact setSlot_self _ _
  simp only [withdrawGroup, emptyQueue_slot]
  exact hself

theorem holderLoses_empty (h : s.queue = emptyQueue) (g : Group) (holder : Holder) :
    (holderLoses g holder s).queue = emptyQueue := by
  unfold holderLoses
  split
  · have hqueue : (loseContest holder.channel s).queue = emptyQueue := by simpa using h
    dsimp only
    rw [hqueue, withdrawFor_empty]
  · exact h

theorem resync_empty (h : s.queue = emptyQueue) (p : Station) (holdings : List (Group × Channel)) :
    (resync p holdings s).queue = emptyQueue := by
  unfold resync
  induction List.finRange 8 generalizing s with
  | nil => exact h
  | cons g gs ih =>
    refine ih ?_
    have hset (u : State) (c : Channel) (r : Chan) : (u.setChan c r).queue = u.queue := rfl
    unfold resyncGroup
    dsimp only
    split
    · split
      · show withdrawGroup g s.queue = _
        rw [h, withdrawGroup_empty]
      · show withdrawGroup g s.queue = _
        rw [h, withdrawGroup_empty]
    · exact h

theorem claimTakes_queue (g : Group) (holder : Holder) (strength : Nat) (s : State) :
    (claimTakes g holder strength s).queue = s.queue := by
  simp

theorem tableHears_empty (h : s.queue = emptyQueue) (f : Frame) : (tableHears f s).queue = emptyQueue := by
  cases f with
  | recal =>
    show (recalHeard s).queue = _
    rw [recalHeard_queue, h]
    rfl
  | release => simpa [tableHears] using h
  | confirm => simpa [tableHears] using h
  | claim strength p g c =>
    show (claimHeard _ g strength s).queue = _
    unfold claimHeard
    split
    · simpa using h
    · simpa using h
    · split
      · simpa using h
      · split
        · simpa using holderLoses_empty h g _
        · simpa using h
    · split
      · simpa using h
      · simpa using h
  | pulse p fields =>
    show (if p = s.number ∨ fields.leaving = true then s else resync p fields.holdings s).queue = _
    split
    · exact h
    · exact resync_empty h p fields.holdings

theorem heardBy_empty (h : s.queue = emptyQueue) (f : Frame) : (heardBy f s).queue = emptyQueue :=
  tableHears_empty (by simpa using h) f

end

end Sys2Proof.Machine
end

section
/-! PROOF. The station controller and the front end stay coherent (01, R1 to R6; 04, R69; 05, R87, R93, R101; 06,
R118; 08, R138 to R147): what an event within a station state keeps, and what each change of state leaves. -/

namespace Sys2Proof.Machine

/-- What each station state fixes but for the record that SEEDING waits for, field by field. -/
structure StationCore (s : State) : Prop where
  lock : s.ctrl.lockOpen = true ↔ s.ctrl.state = .setup
  listen : s.ctrl.listenTimer.isSome = true ↔ s.ctrl.state = .listen
  mute : s.ctrl.muteTimer.isSome = true ↔ s.ctrl.state = .muted
  hold : s.ctrl.setupHold.isSome = true → s.ctrl.state = .setup
  leave : s.ctrl.leavePending = true → s.ctrl.state = .online
  line : s.link.line = .stopped ↔ receiving s.ctrl.state = false
  attempt : s.link.attempt.isSome = true → s.ctrl.state = .online
  linkLow : s.link.linkLow = true → s.link.attempt.isSome = true
  hushed : s.tracker.hushed = true → scanning s.ctrl.state = true
  settle : s.tracker.settle.isSome = s.tracker.hushed
  failures : s.link.consecutive < Config.failureRun
  outside : s.ctrl.state ≠ .online → s.link.consecutive = 0 ∧ s.queue = emptyQueue
    ∧ ∀ c : Channel, s.chans[c].state ≠ .contending ∧ s.chans[c].state ≠ .pressed

/-- In SEEDING some record still seeds (08, R143). -/
def SeedingWaits (s : State) : Prop := s.ctrl.state = .seeding → ∃ c : Channel, s.chans[c].state = .seeding

theorem stationInv_iff {s : State} : StationInv s ↔ StationCore s ∧ SeedingWaits s := by
  constructor
  · rintro ⟨h1, h2, h3, h4, h5, h6, h7, h8, h9, h10, h11, h12, h13⟩
    exact ⟨⟨h1, h2, h3, h4, h5, h6, h7, h8, h9, h10, h11, h13⟩, h12⟩
  · rintro ⟨⟨h1, h2, h3, h4, h5, h6, h7, h8, h9, h10, h11, h13⟩, h12⟩
    exact ⟨h1, h2, h3, h4, h5, h6, h7, h8, h9, h10, h11, h12, h13⟩

/-- The front end and the station controller coherent together. -/
def Sound (s : State) : Prop := FrontInv s ∧ StationInv s

section
variable {s t u : State} {st : StationState}

/-! ### The front end (01, R1, R3, R4, R6) -/

/-- The front end stays coherent while the station scans or not as before. -/
theorem FrontInv.kept (h : FrontInv s) (hfront : t.front = s.front)
    (hscanning : scanning t.ctrl.state = scanning s.ctrl.state) (hkey : ∀ c, t.isKey c = s.isKey c)
    (hsettings : t.tracker.settings = s.tracker.settings) : FrontInv t := by
  obtain ⟨hphase, hwait, hposition, hconv, hlisted, hkeys, href⟩ := h
  refine ⟨?_, ?_, ?_, ?_, ?_, fun c hc => ?_, fun hr => ?_⟩
  · rw [hfront, hscanning]
    exact hphase
  · rw [hfront]
    exact hwait
  · rw [hfront]
    exact hposition
  · rw [hfront]
    exact hconv
  · rw [hfront]
    exact hlisted
  · rw [hkey]
    rw [hfront] at hc
    exact hkeys c hc
  · rw [hsettings]
    rw [hfront] at hr
    exact href hr

/-- The front end stopped, its scan list kept. -/
theorem FrontInv.stopped (h : FrontInv s)
    (hfront : t.front = { s.front with phase := none, position := none, conversion := none, waitTimer := none })
    (hscanning : scanning t.ctrl.state = false) (hkey : ∀ c, t.isKey c = s.isKey c)
    (hsettings : t.tracker.settings = s.tracker.settings) : FrontInv t := by
  obtain ⟨-, -, -, -, -, hkeys, href⟩ := h
  rw [FrontInv, hfront, hscanning, hsettings]
  exact ⟨rfl, iff_of_false nofun nofun, iff_of_false nofun nofun, rfl, rfl, fun c hc => by rw [hkey]; exact hkeys c hc,
    href⟩

/-- A conversion begins at an entry of the scan list. -/
theorem FrontInv.converting {slot : Slot} {us : Nat} (h : FrontInv s) (hmem : slot ∈ s.front.scanList)
    (hscanning : scanning s.ctrl.state = true)
    (hfront : t.front = { s.front with
      phase := some .scan, position := some slot, conversion := some (slot, us), waitTimer := none })
    (hctrl : t.ctrl = s.ctrl) (hkey : ∀ c, t.isKey c = s.isKey c)
    (hsettings : t.tracker.settings = s.tracker.settings) : FrontInv t := by
  obtain ⟨-, -, -, -, -, hkeys, href⟩ := h
  rw [FrontInv, hfront, hctrl, hscanning, hsettings]
  exact ⟨rfl, iff_of_false nofun nofun, iff_of_true rfl rfl, rfl, decide_eq_true hmem,
    fun c hc => by rw [hkey]; exact hkeys c hc, href⟩

/-- A wait begins. -/
theorem FrontInv.waiting {us : Nat} {cycle : BitVec 16} (h : FrontInv s) (hscanning : scanning s.ctrl.state = true)
    (hfront : t.front = { s.front with
      phase := some .wait, position := none, conversion := none, waitTimer := some us, cycle := cycle })
    (hctrl : t.ctrl = s.ctrl) (hkey : ∀ c, t.isKey c = s.isKey c)
    (hsettings : t.tracker.settings = s.tracker.settings) : FrontInv t := by
  obtain ⟨-, -, -, -, -, hkeys, href⟩ := h
  rw [FrontInv, hfront, hctrl, hscanning, hsettings]
  exact ⟨rfl, iff_of_true rfl rfl, iff_of_false nofun nofun, rfl, rfl, fun c hc => by rw [hkey]; exact hkeys c hc, href⟩

/-! ### An event within a station state -/

/-- The event leaves the station's state, its timers and the front end; what it does to the link, to hush and,
outside ONLINE, to the queue and the failure run, stays within what the state allows. -/
structure Steady (s t : State) : Prop where
  ctrl : t.ctrl = s.ctrl
  front : t.front = s.front
  line : t.link.line = .stopped ↔ s.link.line = .stopped
  attempt : t.link.attempt.isSome = true → s.ctrl.state = .online
  linkLow : t.link.linkLow = true → t.link.attempt.isSome = true
  failures : t.link.consecutive < Config.failureRun
  hushed : t.tracker.hushed = true → s.tracker.hushed = true
  settle : t.tracker.settle.isSome = t.tracker.hushed
  settings : t.tracker.settings = s.tracker.settings
  outside : s.ctrl.state ≠ .online → t.link.consecutive = 0 ∧ t.queue = emptyQueue
  records : Moves (decide (s.ctrl.state = .online)) s t

theorem Sound.steady (hs : Sound s) (h : Steady s t) : Sound t := by
  obtain ⟨hfront, hstation⟩ := hs
  obtain ⟨hcore, hseeds⟩ := stationInv_iff.mp hstation
  refine ⟨hfront.kept h.front (by rw [h.ctrl]) (h.records.isKey h.settings) h.settings, stationInv_iff.mpr ⟨?_, ?_⟩⟩
  · exact {
      lock := by rw [h.ctrl]; exact hcore.lock
      listen := by rw [h.ctrl]; exact hcore.listen
      mute := by rw [h.ctrl]; exact hcore.mute
      hold := by rw [h.ctrl]; exact hcore.hold
      leave := by rw [h.ctrl]; exact hcore.leave
      line := by rw [h.ctrl]; exact h.line.trans hcore.line
      attempt := by rw [h.ctrl]; exact h.attempt
      linkLow := h.linkLow
      hushed := by rw [h.ctrl]; exact fun hh => hcore.hushed (h.hushed hh)
      settle := h.settle
      failures := h.failures
      outside := by
        rw [h.ctrl]
        intro hoff
        obtain ⟨hfailures, hqueue⟩ := h.outside hoff
        refine ⟨hfailures, hqueue, fun c => ?_⟩
        have hmove := h.records c
        rw [decide_eq_false hoff] at hmove
        exact hmove.notHolding ((hcore.outside hoff).2.2 c) }
  · intro hseeding
    rw [h.ctrl] at hseeding
    obtain ⟨c, hc⟩ := hseeds hseeding
    exact ⟨c, (h.records c).seeding hc⟩

/-- An event that leaves the link and hush as well. -/
theorem Steady.of_link (hs : Sound s) (hctrl : t.ctrl = s.ctrl) (hfront : t.front = s.front) (hlink : t.link = s.link)
    (htracker : t.tracker = s.tracker) (hqueue : s.ctrl.state ≠ .online → t.queue = emptyQueue)
    (hm : Moves (decide (s.ctrl.state = .online)) s t) : Steady s t := by
  obtain ⟨hcore, -⟩ := stationInv_iff.mp hs.2
  exact {
    ctrl := hctrl
    front := hfront
    line := by rw [hlink]
    attempt := by rw [hlink]; exact hcore.attempt
    linkLow := by rw [hlink]; exact hcore.linkLow
    failures := by rw [hlink]; exact hcore.failures
    hushed := by rw [htracker]; exact id
    settle := by rw [htracker]; exact hcore.settle
    settings := by rw [htracker]
    outside := fun hoff => ⟨by rw [hlink]; exact (hcore.outside hoff).1, hqueue hoff⟩
    records := hm }

end

end Sys2Proof.Machine
end

section
/-! PROOF. The events within a station state keep the station coherent (05, 06, 07, 08). -/

namespace Sys2Proof.Machine

section
variable {s t u : State}

theorem Sound.core (hs : Sound s) : StationCore s := (stationInv_iff.mp hs.2).1

theorem Sound.emptyQueue (hs : Sound s) (hoff : s.ctrl.state ≠ .online) : s.queue = emptyQueue :=
  (hs.core.outside hoff).2.1

theorem Sound.failures (hs : Sound s) (hoff : s.ctrl.state ≠ .online) : s.link.consecutive = 0 :=
  (hs.core.outside hoff).1

/-- An attempt is made in ONLINE alone, so outside it no channel of this station can come to hold a group. -/
theorem Sound.holds (hs : Sound s) (hatt : s.link.attempt.isSome = true) :
    decide (s.ctrl.state = .online) = true := decide_eq_true (hs.core.attempt hatt)

/-! ### Link (05) -/

/-- An event that changes only the line, from one that is not STOPPED to another, and counters. -/
theorem Sound.withLine (hs : Sound s) {line : Line} (rx : BitVec 16) (hline : s.link.line ≠ .stopped)
    (hline' : line ≠ .stopped) : Sound { s with link := { s.link with line := line, rxErrors := rx } } :=
  hs.steady {
    ctrl := rfl, front := rfl, line := iff_of_false hline' hline, attempt := hs.core.attempt
    linkLow := hs.core.linkLow, failures := hs.core.failures, hushed := id, settle := hs.core.settle
    settings := rfl, outside := fun hoff => ⟨hs.failures hoff, hs.emptyQueue hoff⟩, records := .refl s }

/-- What a bit read leaves of the link. -/
theorem linkReads_keeps {l : Link} (hline : l.line ≠ .stopped) (hlow : l.linkLow = true → l.attempt.isSome = true)
    (bit : Bool) : (linkReads bit l).line ≠ .stopped ∧ (linkReads bit l).attempt.isSome = l.attempt.isSome
      ∧ ((linkReads bit l).linkLow = true → (linkReads bit l).attempt.isSome = true) := by
  cases hatt : l.attempt with
  | none =>
    simp only [linkReads, hatt]
    refine ⟨?_, trivial, fun h => absurd (hlow h) (by rw [hatt]; exact nofun)⟩
    cases hl : l.line with
    | stopped => exact absurd hl hline
    | seeking run => unfold lineReads; dsimp only; split_ifs <;> exact nofun
    | idle => unfold lineReads; dsimp only; split_ifs <;> exact nofun
    | receiving bits => unfold lineReads; dsimp only; split <;> exact nofun
  | some a =>
    simp only [linkReads, hatt]
    rw [attemptReads_line]
    obtain ⟨b, hb, -⟩ := attemptReads_attempt bit a l hatt
    rw [hb]
    exact ⟨nofun, rfl, fun _ => rfl⟩

/-- A bit read, from a line that is not STOPPED (05, R87, R94). -/
theorem Sound.linkReads (hs : Sound s) (bit : Bool) (hline : s.link.line ≠ .stopped) :
    Sound { s with link := linkReads bit s.link } := by
  obtain ⟨hline', hatt, hlow⟩ := linkReads_keeps hline hs.core.linkLow bit
  obtain ⟨-, -, hfailures⟩ := linkReads_counters bit s.link
  exact hs.steady {
    ctrl := rfl, front := rfl, line := iff_of_false hline' hline
    attempt := fun h => hs.core.attempt (hatt ▸ h)
    linkLow := hlow
    failures := lt_of_eq_of_lt hfailures hs.core.failures
    hushed := id, settle := hs.core.settle
    settings := rfl
    outside := fun hoff => ⟨hfailures.trans (hs.failures hoff), hs.emptyQueue hoff⟩
    records := .refl s }

/-- The start of an attempt (05, R93). -/
theorem Sound.started (hs : Sound s) (slot : TxSlot) (f : Frame) (honline : s.ctrl.state = .online) :
    Sound (startOn slot f s) :=
  hs.steady {
    ctrl := rfl, front := rfl, line := Iff.rfl, attempt := fun _ => honline
    linkLow := fun _ => rfl, failures := hs.core.failures, hushed := id, settle := hs.core.settle
    settings := rfl, outside := fun hoff => absurd honline hoff, records := .refl s }

/-- In ONLINE an event that ends the attempt, from a line that is not STOPPED to another. -/
theorem Steady.attemptEnded (hs : Sound s) (honline : s.ctrl.state = .online) (hctrl : t.ctrl = s.ctrl)
    (hfront : t.front = s.front) (hline : t.link.line ≠ .stopped) (hatt : t.link.attempt = none)
    (hlow : t.link.linkLow = false) (hfailures : t.link.consecutive < Config.failureRun)
    (hhushed : t.tracker.hushed = true → s.tracker.hushed = true) (hsettle : t.tracker.settle.isSome = t.tracker.hushed)
    (hsettings : t.tracker.settings = s.tracker.settings) (hm : Moves true s t) : Steady s t where
  ctrl := hctrl
  front := hfront
  line := iff_of_false hline fun hc => by
    have hrecv := hs.core.line.mp hc
    rw [honline] at hrecv
    cases hrecv
  attempt := fun h => by rw [hatt] at h; cases h
  linkLow := fun h => by rw [hlow] at h; cases h
  failures := hfailures
  hushed := hhushed
  settle := hsettle
  settings := hsettings
  outside := fun hoff => absurd honline hoff
  records := by rw [decide_eq_true honline]; exact hm

theorem Sound.arbitrationLost (hs : Sound s) (a : Attempt) (bit : Nat) (hatt : s.link.attempt = some a) :
    Sound (loseArbitration a bit s) := by
  have honline : s.ctrl.state = .online := hs.core.attempt (by rw [hatt]; rfl)
  refine hs.steady (Steady.attemptEnded hs honline ?_ ?_ ?_ ?_ ?_ ?_ ?_ ?_ ?_ ?_)
  · simp [loseArbitration]
  · simp [loseArbitration]
  · simp [loseArbitration]
  · simp [loseArbitration]
  · simp [loseArbitration]
  · simpa [loseArbitration] using hs.core.failures
  · simp [loseArbitration]
  · simpa [loseArbitration] using hs.core.settle
  · simp [loseArbitration]
  · unfold loseArbitration
    dsimp only
    generalize hlost : ({ s with queue := _, link := _ } : State) = u
    have hmoved : Moves true s u := .of_eq (by rw [← hlost])
    exact hmoved.trans (by rw [← hlost]) (attemptEndHandled_moves true u _)

/-! ### Frames (05, R91, R97) -/

/-- Hush can only end with a frame heard (02, R38). -/
theorem heardBy_tracker (f : Frame) (s : State) : (heardBy f s).tracker = s.tracker
    ∨ (heardBy f s).tracker = { s.tracker with hushed := false, settle := none } := by
  have htracker : (rosterHears f (afterFrame s)).tracker = s.tracker := by simp [afterFrame]
  unfold heardBy
  rw [← htracker]
  generalize rosterHears f (afterFrame s) = u
  cases f with
  | claim strength p g c =>
    left
    show (claimHeard _ g strength u).tracker = u.tracker
    simp
  | confirm p g c =>
    left
    show (confirmHeard _ g u).tracker = u.tracker
    simp
  | release p g c reason =>
    left
    show (releaseHeard _ g reason u).tracker = u.tracker
    simp
  | pulse p fields =>
    left
    show (if p = u.number ∨ fields.leaving = true then u else resync p fields.holdings u).tracker = u.tracker
    split
    · rfl
    · simp
  | recal =>
    show (recalHeard u).tracker = _ ∨ (recalHeard u).tracker = _
    rw [recalHeard_tracker]
    split
    · exact .inr rfl
    · exact .inl rfl

theorem heardBy_ctrl (f : Frame) (s : State) : (heardBy f s).ctrl = s.ctrl := by
  simp [heardBy, afterFrame]

theorem heardBy_front (f : Frame) (s : State) : (heardBy f s).front = s.front := by
  simp [heardBy, afterFrame]

theorem heardBy_link (f : Frame) (s : State) : (heardBy f s).link = { s.link with line := .seeking 7 } := by
  simp [heardBy, afterFrame]

/-- Hush stays or ends with a frame, and its settled count with it. -/
theorem Sound.heardBy_hush (hs : Sound s) (f : Frame) :
    ((heardBy f s).tracker.hushed = true → s.tracker.hushed = true)
      ∧ (heardBy f s).tracker.settle.isSome = (heardBy f s).tracker.hushed := by
  obtain h | h := heardBy_tracker f s
  · rw [h]
    exact ⟨id, hs.core.settle⟩
  · rw [h]
    exact ⟨nofun, rfl⟩

/-- No attempt, so LINK is not driven. -/
theorem Sound.linkHigh (hs : Sound s) (hnone : s.link.attempt = none) : s.link.linkLow = false := by
  rw [← Bool.not_eq_true]
  intro h
  have hsome := hs.core.linkLow h
  rw [hnone] at hsome
  cases hsome

theorem Sound.lineRuns (hs : Sound s) (hrecv : receiving s.ctrl.state = true) : s.link.line ≠ .stopped :=
  fun hc => by
    rw [hs.core.line.mp hc] at hrecv
    cases hrecv

theorem Sound.heard (hs : Sound s) {f : Frame} (hrecv : receiving s.ctrl.state = true)
    (hnone : s.link.attempt = none) (hpeer : senderOf f ≠ s.number) : Sound (deliver f none s) := by
  obtain ⟨hhushed, hsettle⟩ := hs.heardBy_hush f
  refine hs.steady {
    ctrl := ?_, front := ?_, line := ?_, attempt := ?_, linkLow := ?_, failures := ?_, hushed := ?_, settle := ?_
    settings := deliver_settings f none s, outside := fun hoff => ⟨?_, ?_⟩
    records := deliver_moves _ s _ fun h => absurd h hpeer }
  · simp [deliver_none, heardBy_ctrl]
  · simp [deliver_none, heardBy_front]
  · simpa [deliver_none, heardBy_link] using hs.lineRuns hrecv
  · simp [deliver_none, heardBy_link, hnone]
  · simp [deliver_none, heardBy_link, hs.linkHigh hnone]
  · simpa [deliver_none, heardBy_link] using hs.core.failures
  · simpa [deliver_none] using hhushed
  · simpa [deliver_none] using hsettle
  · simpa [deliver_none, heardBy_link] using hs.failures hoff
  · have hoff' : (heardBy f s).ctrl.state ≠ .online := by rwa [heardBy_ctrl]
    rw [deliver_none, evaluate_offline _ _ (by rw [online_eq_false]; simpa [heardBy_ctrl] using hoff),
      cadenceHears_offline hoff', heardBy_empty (hs.emptyQueue hoff)]

/-! ### Timers, commands and the link's own events -/

/-- An event in ONLINE that leaves the station's state, the front end, the link and hush. -/
theorem Sound.online (hs : Sound s) (honline : s.ctrl.state = .online) (hctrl : t.ctrl = s.ctrl)
    (hfront : t.front = s.front) (hlink : t.link = s.link) (htracker : t.tracker = s.tracker) (hm : Moves true s t) :
    Sound t :=
  hs.steady (.of_link hs hctrl hfront hlink htracker (fun hoff => absurd honline hoff)
    (by rw [decide_eq_true honline]; exact hm))

/-- An event in any state that leaves it, the front end, the link and hush, and outside ONLINE the queue empty. -/
theorem Sound.aside (hs : Sound s) (hctrl : t.ctrl = s.ctrl) (hfront : t.front = s.front) (hlink : t.link = s.link)
    (htracker : t.tracker = s.tracker) (hqueue : s.ctrl.state ≠ .online → t.queue = Machine.emptyQueue)
    (hm : Moves (decide (s.ctrl.state = .online)) s t) : Sound t :=
  hs.steady (.of_link hs hctrl hfront hlink htracker hqueue hm)

theorem Sound.contestEnded (hs : Sound s) (g : Group) (e : Entry) (c : Channel) :
    Sound ((s.setEntry g e).requestConfirm g c) := by
  refine hs.aside (by simp) (by simp) (by simp) (by simp) (fun hoff => ?_) (.of_eq (by simp))
  rw [requestConfirm_offline (by simpa using hoff)]
  exact hs.emptyQueue hoff

theorem Sound.handedOn (hs : Sound s) (old : Vector Entry 8) : Sound (handOnChanges old s) := by
  refine hs.aside (by simp) (by simp) (by simp) (by simp) (fun hoff => ?_) (handOnChanges_moves _ _ _)
  rw [handOnChanges_eq, evaluate_offline _ _ (online_eq_false (by simpa using hoff))]
  exact hs.emptyQueue hoff

theorem Sound.guardEnded (hs : Sound s) (g : Group) (e : Entry) (old : Vector Entry 8) :
    Sound (handOnChanges old (s.setEntry g e)) := by
  have hfreed : Sound (s.setEntry g e) := hs.aside rfl rfl rfl rfl hs.emptyQueue (.refl s)
  exact hfreed.handedOn old

theorem Sound.abandonEnded (hs : Sound s) (g : Group) : Sound (abandonExpires g s) := by
  unfold abandonExpires
  split
  next h _ _ _ =>
    have hlost : Sound (holderLoses g h s) :=
      hs.aside (by simp) (by simp) (by simp) (by simp) (fun hoff => holderLoses_empty (hs.emptyQueue hoff) g h)
        (holderLoses_moves _ s g h)
    have hfreed : Sound { (holderLoses g h s).setEntry g .free with
        table := { ((holderLoses g h s).setEntry g .free).table with
          abandoned := satInc ((holderLoses g h s).setEntry g .free).table.abandoned } } :=
      hlost.aside rfl rfl rfl rfl hlost.emptyQueue (.refl _)
    exact hfreed.handedOn _
  next => exact hs

theorem Sound.peerLost (hs : Sound s) (p : Station) : Sound (peerExpires p s) := by
  unfold peerExpires
  split
  next =>
    have hfreed : Sound (freePeer p .peerLost ((s.setRoster p absentEntry).put (.peerLost p))) :=
      hs.aside rfl rfl rfl rfl hs.emptyQueue (.refl _)
    exact hfreed.handedOn _
  next => exact hs

theorem Sound.holdEnded (hs : Sound s) {c : Channel} (hstate : s.chans[c].state = .pressed) :
    Sound ((leaveClaimSide .stuck c s).setChan c (toSeeding s.chans[c])) := by
  refine hs.aside (by simp) (by simp) (by simp) (by simp) (fun hoff => ?_) (holdEnded_moves _ s hstate)
  exact absurd hstate ((hs.core.outside hoff).2.2 c).2

theorem Sound.pulseRequested (hs : Sound s) (routine : Bool) : Sound (s.requestPulse routine) := by
  refine hs.aside (by simp) (by simp) (by simp) (by simp) (fun hoff => ?_) (.of_eq (by simp))
  rw [requestPulse_offline hoff]
  exact hs.emptyQueue hoff

theorem Sound.intervalEnded (hs : Sound s) :
    Sound (({ s with queue := { s.queue with intervalTimer := none } }).requestPulse true) := by
  have hstopped : Sound { s with queue := { s.queue with intervalTimer := none } } :=
    hs.aside rfl rfl rfl rfl (fun hoff => by
      show { s.queue with intervalTimer := none } = _
      rw [hs.emptyQueue hoff]
      rfl)
      (.refl s)
  exact hstopped.pulseRequested true

theorem Sound.quietEnded (hs : Sound s) (quiet : QuietTimer) (c : Cadence) :
    Sound (changeCadence c { s with cad := { s.cad with quiet := quiet } }) := by
  refine hs.aside (by simp) (by simp) (by simp) (by simp) (fun hoff => ?_) (.of_eq (by simp))
  rw [changeCadence_offline (by exact hoff)]
  exact hs.emptyQueue hoff

theorem Sound.reseeded (hs : Sound s) {c : Channel} (hoff : s.chans[c].state ≠ .off) :
    Sound (reseedChannel c s) := by
  refine hs.aside (by simp [reseedChannel]) (by simp [reseedChannel]) (by simp [reseedChannel])
    (by simp [reseedChannel]) (fun hoffline => ?_) (reseedChannel_moves _ s hoff)
  rw [reseedChannel, evaluate_offline _ _ (online_eq_false (by simpa using hoffline))]
  exact (leaveClaimSide_offline hoffline _ c).trans (hs.emptyQueue hoffline)

theorem Sound.recalQueued (hs : Sound s) (honline : s.ctrl.state = .online) (b : Bool) :
    Sound { s with queue := { s.queue with recal := b } } :=
  hs.online honline rfl rfl rfl rfl (.refl s)

/-- LEAVE pending in ONLINE (08, R147). -/
theorem Sound.leavePending (hs : Sound s) (honline : s.ctrl.state = .online) (b : Bool) :
    Sound { s with ctrl := { s.ctrl with leavePending := b } } := by
  obtain ⟨hfront, hstation⟩ := hs
  obtain ⟨hcore, hseeds⟩ := stationInv_iff.mp hstation
  exact ⟨hfront, stationInv_iff.mpr ⟨{ hcore with leave := fun _ => honline }, hseeds⟩⟩

/-- The setup hold stopped (08, R139). -/
theorem Sound.setupRefused (hs : Sound s) : Sound (stopSetupHold s) := by
  obtain ⟨hfront, hstation⟩ := hs
  obtain ⟨hcore, hseeds⟩ := stationInv_iff.mp hstation
  exact ⟨hfront, stationInv_iff.mpr ⟨{ hcore with hold := nofun }, hseeds⟩⟩

theorem Sound.cleared (hs : Sound s) (stray abandoned rx tx : BitVec 16) : Sound { s with
    table := { s.table with stray := stray, abandoned := abandoned }
    link := { s.link with rxErrors := rx, txFailures := tx } } :=
  hs.steady {
    ctrl := rfl, front := rfl, line := Iff.rfl, attempt := hs.core.attempt, linkLow := hs.core.linkLow
    failures := hs.core.failures, hushed := id, settle := hs.core.settle, settings := rfl
    outside := fun hoff => ⟨hs.failures hoff, hs.emptyQueue hoff⟩, records := .refl s }

end

end Sys2Proof.Machine
end

section
/-! PROOF. Each change of the station's state leaves it coherent (05, R101; 06, R118; 08, R142 to R149). -/

namespace Sys2Proof.Machine

section
variable {s t u : State}

/-- The lock is open, and the setup hold runs, in SETUP alone. -/
theorem StationCore.locked (h : StationCore s) (hstate : s.ctrl.state ≠ .setup) :
    s.ctrl.lockOpen = false ∧ s.ctrl.setupHold = none := by
  constructor
  · rw [← Bool.not_eq_true, h.lock]
    exact hstate
  · rw [← Option.not_isSome_iff_eq_none]
    exact mt h.hold hstate

/-- The station reaches another state by `controllerIn`: its timers follow the state. -/
theorem stationCore_entered {st : StationState} {c : Controller} (hctrl : t.ctrl = controllerIn st c)
    (hlock : c.lockOpen = false ∧ c.setupHold = none) (hst : st ≠ .setup)
    (hline : t.link.line = .stopped ↔ receiving st = false) (hatt : t.link.attempt = none)
    (hlow : t.link.linkLow = false) (hhushed : t.tracker.hushed = true → scanning st = true)
    (hsettle : t.tracker.settle.isSome = t.tracker.hushed) (hfailures : t.link.consecutive = 0)
    (houtside : st ≠ .online → t.queue = emptyQueue
      ∧ ∀ c : Channel, t.chans[c].state ≠ .contending ∧ t.chans[c].state ≠ .pressed) : StationCore t := by
  obtain ⟨hopen, hhold⟩ := hlock
  have hstate : t.ctrl.state = st := by rw [hctrl]; rfl
  have hlisten : t.ctrl.listenTimer = if st = .listen then some listenUs else none := by rw [hctrl]; rfl
  have hmute : t.ctrl.muteTimer = if st = .muted then some muteUs else none := by rw [hctrl]; rfl
  have hlock' : t.ctrl.lockOpen = false := by rw [hctrl]; exact hopen
  have hhold' : t.ctrl.setupHold = none := by rw [hctrl]; exact hhold
  have hpending : t.ctrl.leavePending = false := by rw [hctrl]; rfl
  exact {
    lock := by rw [hlock', hstate]; exact iff_of_false nofun hst
    listen := by rw [hlisten, hstate]; split <;> simp [*]
    mute := by rw [hmute, hstate]; split <;> simp [*]
    hold := by rw [hhold']; exact nofun
    leave := by rw [hpending]; exact nofun
    line := by rw [hstate]; exact hline
    attempt := by rw [hatt]; exact nofun
    linkLow := by rw [hlow]; exact nofun
    hushed := by rw [hstate]; exact hhushed
    settle := hsettle
    failures := by rw [hfailures]; decide
    outside := by rw [hstate]; exact fun hoff => ⟨hfailures, houtside hoff⟩ }

theorem seedingWaits_of_ne (h : t.ctrl.state ≠ .seeding) : SeedingWaits t := fun hs => absurd hs h

/-- A stop, of a station whose records have moved since (08, R147, R149). -/
theorem Sound.stopped (hs : Sound s) {st : StationState} (hst : st = .halted ∨ st = .offline)
    (hstate : s.ctrl.state ≠ .setup) (hctrl : u.ctrl = s.ctrl) (hfront : u.front = s.front)
    (hsettings : u.tracker.settings = s.tracker.settings) (hm : Moves (decide (s.ctrl.state = .online)) s u) :
    Sound (enterStopped st u) := by
  have hkeys := (hm.trans hsettings (enterStopped_moves _ u st)).isKey ((enterStopped_settings st u).trans hsettings)
  have hrecv : receiving st = false := by obtain rfl | rfl := hst <;> rfl
  have hscan : scanning st = false := by obtain rfl | rfl := hst <;> rfl
  have hset : st ≠ .setup := by obtain rfl | rfl := hst <;> exact nofun
  have hseed : st ≠ .seeding := by obtain rfl | rfl := hst <;> exact nofun
  rw [enterStopped_eq] at hkeys ⊢
  refine ⟨hs.1.stopped (by rw [← hfront]) hscan hkeys hsettings, stationInv_iff.mpr ⟨?_, seedingWaits_of_ne hseed⟩⟩
  refine stationCore_entered (st := st) (c := u.ctrl) rfl (by rw [hctrl]; exact hs.core.locked hstate) hset
    (iff_of_true rfl hrecv) rfl rfl nofun rfl rfl fun _ => ⟨rfl, fun c => ?_⟩
  dsimp only
  rw [each_get, stoppedChan]
  split
  · exact ⟨nofun, nofun⟩
  next hkept =>
    have hside : u.online = true → claimSide u.chans[c].state = false := fun h => by
      rw [← Bool.not_eq_true]
      exact fun hc => hkept (.inr ⟨h, hc⟩)
    by_cases honline : s.ctrl.state = .online
    · have hnone := hside ((online_iff u).mpr (by rw [hctrl]; exact honline))
      constructor <;> (intro hc; rw [hc] at hnone; cases hnone)
    · have hmove := hm c
      rw [decide_eq_false honline] at hmove
      exact hmove.notHolding ((hs.core.outside honline).2.2 c)

/-- MUTED entered from ONLINE, with the link as the sixteenth failure leaves it (08, R146). -/
theorem Sound.muted (hs : Sound s) (honline : s.ctrl.state = .online) (hctrl : u.ctrl = s.ctrl)
    (hfront : u.front = s.front) (htracker : u.tracker = s.tracker) (hm : Moves true s u)
    (hline : u.link.line ≠ .stopped) (hatt : u.link.attempt = none) (hlow : u.link.linkLow = false) :
    Sound (enterMuted u) := by
  have hnot : s.ctrl.state ≠ .setup := by rw [honline]; exact nofun
  have hkeys : ∀ c, (enterMuted u).isKey c = s.isKey c :=
    (hm.trans (by rw [htracker]) (enterMuted_moves true u)).isKey (by rw [enterMuted_eq, ← htracker])
  rw [enterMuted_eq] at hkeys ⊢
  refine ⟨hs.1.kept (by rw [← hfront]) (by rw [honline]; rfl) hkeys (by rw [← htracker]),
    stationInv_iff.mpr ⟨?_, seedingWaits_of_ne nofun⟩⟩
  refine stationCore_entered (st := .muted) (c := u.ctrl) rfl (by rw [hctrl]; exact hs.core.locked hnot) nofun
    (iff_of_false hline nofun) hatt hlow (fun _ => rfl) (by rw [htracker]; exact hs.core.settle) rfl
    fun _ => ⟨rfl, fun c => ?_⟩
  dsimp only
  rw [each_get]
  split
  · exact ⟨nofun, nofun⟩
  next hkept => constructor <;> (intro hc; rw [hc] at hkept; exact hkept rfl)

/-- A failed attempt (05, R99, R101). -/
theorem Sound.attemptFailed (hs : Sound s) {a : Attempt} (hatt : s.link.attempt = some a) :
    Sound (failAttempt a.slot s) := by
  have honline : s.ctrl.state = .online := hs.core.attempt (by rw [hatt]; rfl)
  obtain ⟨u, hu⟩ : ∃ u, u = attemptOver a.slot (failLink s.link) s := ⟨_, rfl⟩
  have hctrl : u.ctrl = s.ctrl := by rw [hu]; rfl
  have hfront : u.front = s.front := by rw [hu]; rfl
  have htracker : u.tracker = s.tracker := by rw [hu]; rfl
  have hlink : u.link = failLink s.link := by rw [hu]; rfl
  have hm (on : Bool) : Moves on s u := .of_eq (by rw [hu]; rfl)
  by_cases hfew : s.link.consecutive + 1 < 16
  · rw [failAttempt_of_lt hfew, ← hu]
    refine hs.steady (Steady.attemptEnded hs honline ?_ ?_ ?_ ?_ ?_ ?_ ?_ ?_ ?_
      ((hm true).trans (by rw [htracker]) (attemptEndHandled_moves true u _)))
    · simp [hctrl]
    · simp [hfront]
    · simp [hlink, failLink]
    · simp [hlink, failLink]
    · simp [hlink, failLink]
    · simpa [hlink, failLink, Config.failureRun] using hfew
    · simp [htracker]
    · simpa [htracker] using hs.core.settle
    · simp [htracker]
  · rw [failAttempt_of_le (Nat.not_lt.mp hfew), ← hu]
    split
    · exact hs.stopped (.inr rfl) (by rw [honline]; exact nofun) hctrl hfront (by rw [htracker]) (hm _)
    · exact hs.muted honline hctrl hfront htracker (hm _) (by rw [hlink]; exact nofun) (by rw [hlink]; rfl)
        (by rw [hlink]; rfl)

theorem heardBy_moves (on : Bool) {f : Frame} (s : State) (hon : senderOf f = s.number → on = true) :
    Moves on s (heardBy f s) := by
  have hroster : Moves on s (rosterHears f (afterFrame s)) := .of_eq (by simp [afterFrame])
  exact hroster.trans (by simp [afterFrame]) (tableHears_moves on _ (by simpa [State.number, afterFrame] using hon))

theorem attemptSucceeds_link (slot : TxSlot) (f : Frame) (s : State) : (attemptSucceeds slot f s).link
    = { s.link with attempt := none, linkLow := false, consecutive := 0 } := by
  cases f <;> rfl

theorem cadenceHears_link (f : Frame) (old : Vector Entry 8) (s : State) : (cadenceHears f old s).link = s.link := by
  simp

/-- A frame of this station's own heard (05, R97): back to the receiver with no attempt, or OFFLINE. -/
theorem Sound.ownHeard (hs : Sound s) {a : Attempt} (hatt : s.link.attempt = some a) :
    Sound (deliver a.frame (some a.slot) s) := by
  have honline : s.ctrl.state = .online := hs.core.attempt (by rw [hatt]; rfl)
  obtain ⟨hhushed, hsettle⟩ := hs.heardBy_hush a.frame
  have hm : Moves true s (succeededBy a.slot a.frame s) :=
    (heardBy_moves true s fun _ => rfl).trans (heardBy_settings a.frame s) (.of_eq (by simp [succeededBy]))
  have hctrl : (succeededBy a.slot a.frame s).ctrl = s.ctrl := by simp [succeededBy, heardBy_ctrl]
  have hfront : (succeededBy a.slot a.frame s).front = s.front := by simp [succeededBy, heardBy_front]
  have htracker : (succeededBy a.slot a.frame s).tracker = (heardBy a.frame s).tracker := by simp [succeededBy]
  have hsettings : (succeededBy a.slot a.frame s).tracker.settings = s.tracker.settings := by
    rw [htracker, heardBy_settings]
  have hlink : (succeededBy a.slot a.frame s).link
      = { s.link with line := .seeking 7, attempt := none, linkLow := false, consecutive := 0 } := by
    rw [succeededBy, cadenceHears_link, attemptSucceeds_link, heardBy_link]
  rw [deliver_own]
  generalize succeededBy a.slot a.frame s = u at hm hctrl hfront htracker hsettings hlink ⊢
  rw [← htracker] at hhushed hsettle
  split
  · refine hs.stopped (.inr rfl) (by rw [honline]; exact nofun) hctrl hfront hsettings ?_
    rw [decide_eq_true honline]
    exact hm
  · have hagain : Moves true s (confirmedAgain a.slot u) := hm.trans hsettings (.of_eq (by simp))
    refine hs.steady (Steady.attemptEnded hs honline ?_ ?_ ?_ ?_ ?_ ?_ ?_ ?_ ?_
      (hagain.trans (by simpa using hsettings) (evaluate_moves true _ _)))
    · simpa using hctrl
    · simpa using hfront
    · simp [hlink]
    · simp [hlink]
    · simp [hlink]
    · simp [hlink, Config.failureRun]
    · simpa using hhushed
    · simpa using hsettle
    · simpa using hsettings

/-- The mute period ends in LISTEN (08, R146). -/
theorem Sound.muteEnded (hs : Sound s) (hstate : s.ctrl.state = .muted) : Sound (enterListen s) := by
  have hoff : s.ctrl.state ≠ .online := by rw [hstate]; exact nofun
  have hnone : s.link.attempt = none := by
    rw [← Option.not_isSome_iff_eq_none]
    exact fun h => hoff (hs.core.attempt h)
  obtain ⟨hfailures, hqueue, hchans⟩ := hs.core.outside hoff
  rw [enterListen_eq, if_neg (by rw [hstate]; exact nofun)]
  refine ⟨hs.1.kept rfl (by rw [hstate]; rfl) (fun _ => rfl) rfl, stationInv_iff.mpr ⟨?_, seedingWaits_of_ne nofun⟩⟩
  exact stationCore_entered (st := .listen) (c := s.ctrl) rfl (hs.core.locked (by rw [hstate]; exact nofun)) nofun
    (iff_of_false (hs.lineRuns (by rw [hstate]; rfl)) nofun) hnone (hs.linkHigh hnone) (fun _ => rfl) hs.core.settle
    hfailures fun _ => ⟨hqueue, hchans⟩

/-- The listen window ends in ONLINE (08, R145). -/
theorem Sound.listenEnded (hs : Sound s) (hstate : s.ctrl.state = .listen) : Sound (enterOnline s) := by
  have hoff : s.ctrl.state ≠ .online := by rw [hstate]; exact nofun
  have hnone : s.link.attempt = none := by
    rw [← Option.not_isSome_iff_eq_none]
    exact fun h => hoff (hs.core.attempt h)
  have hentered : Sound (onlineEntered s) := by
    refine ⟨hs.1.kept rfl (by rw [hstate]; rfl) (fun _ => rfl) rfl, stationInv_iff.mpr ⟨?_, seedingWaits_of_ne nofun⟩⟩
    exact stationCore_entered (st := .online) (c := s.ctrl) rfl (hs.core.locked (by rw [hstate]; exact nofun)) nofun
      (iff_of_false (hs.lineRuns (by rw [hstate]; rfl)) nofun) hnone (hs.linkHigh hnone) (fun _ => rfl) hs.core.settle
      rfl fun h => absurd rfl h
  rw [enterOnline_eq]
  exact hentered.online rfl (by simp) (by simp) (by simp) (by simp) (evaluate_moves true _ _)

/-! ### SEEDING (08, R142, R143) -/

/-- The tracker's report of the end of a seeding makes the station coherent. -/
theorem station_leavesSeeding (hfront : FrontInv u) (hcore : StationCore u) : Sound (leavesSeeding u) := by
  unfold leavesSeeding
  split
  next h =>
    obtain ⟨hstate, -⟩ := h
    have hoff : u.ctrl.state ≠ .online := by rw [hstate]; exact nofun
    have hnone : u.link.attempt = none := by
      rw [← Option.not_isSome_iff_eq_none]
      exact fun h => hoff (hcore.attempt h)
    have hlow : u.link.linkLow = false := by
      rw [← Bool.not_eq_true]
      intro h
      have hsome := hcore.linkLow h
      rw [hnone] at hsome
      cases hsome
    obtain ⟨hfailures, hqueue, hchans⟩ := hcore.outside hoff
    refine ⟨hfront.kept rfl (by rw [hstate]; rfl) (fun _ => rfl) rfl, stationInv_iff.mpr ⟨?_, seedingWaits_of_ne nofun⟩⟩
    exact stationCore_entered (st := .listen) (c := u.ctrl) rfl (hcore.locked (by rw [hstate]; exact nofun)) nofun
      (iff_of_false nofun nofun) hnone hlow (fun _ => rfl) hcore.settle hfailures fun _ => ⟨hqueue, hchans⟩
  next h =>
    refine ⟨hfront, stationInv_iff.mpr ⟨hcore, fun hstate => ?_⟩⟩
    by_contra hc
    exact h ⟨hstate, fun d hd => hc ⟨d, hd⟩⟩

/-- A start begins a conversion of the scan list or, the list empty, a wait (01, R3). -/
theorem startedFront_cases (b : SetupBlock) :
    (∃ slot us, slot ∈ scanListFor b ∧ startedFront b = {
        scanList := scanListFor b, phase := some .scan, position := some slot, conversion := some (slot, us)
        waitTimer := none, cycle := 0#16 })
      ∨ ∃ us, startedFront b = {
        scanList := scanListFor b, phase := some .wait, position := none, conversion := none
        waitTimer := some us, cycle := 1#16 } := by
  unfold startedFront
  cases h : scanListFor b with
  | nil => exact .inr ⟨_, rfl⟩
  | cons slot rest => exact .inl ⟨slot, _, List.mem_cons_self, rfl⟩

/-- The front end that starts under a setup block is coherent with it (01, R1, R3, R10). -/
theorem frontInv_seedingEntered (s : State) : FrontInv (seedingEntered s) := by
  have hkey (c : Channel) : (seedingEntered s).isKey c
      = ((channelSetupOf s.ctrl.block c).enabled && decide ((settingsOf s.ctrl.block).refHost ≠ some c)) := by
    show ((startedChans s.ctrl.block s.chans)[c].setup.enabled && decide ((settingsOf s.ctrl.block).refHost ≠ some c))
      = _
    rw [startedChans, each_get, startedChan_setup]
  have hkeys (c : Channel) (hc : .channel c ∈ scanListFor s.ctrl.block) : (seedingEntered s).isKey c = true := by
    rw [hkey]
    simpa [scanListFor] using hc
  have href (hr : .reference ∈ scanListFor s.ctrl.block) : (settingsOf s.ctrl.block).refHost.isSome = true := by
    simpa [scanListFor] using hr
  have hfront : (seedingEntered s).front = startedFront s.ctrl.block := rfl
  have hscan : scanning (seedingEntered s).ctrl.state = true := rfl
  rw [FrontInv, hfront, hscan]
  obtain ⟨slot, us, hmem, hstarted⟩ | ⟨us, hstarted⟩ := startedFront_cases s.ctrl.block
  · rw [hstarted]
    exact ⟨rfl, iff_of_false nofun nofun, iff_of_true rfl rfl, rfl, decide_eq_true hmem, hkeys, href⟩
  · rw [hstarted]
    exact ⟨rfl, iff_of_true rfl rfl, iff_of_false nofun nofun, rfl, rfl, hkeys, href⟩

theorem station_enterSeeding (hfailures : s.link.consecutive = 0) : Sound (enterSeeding s) := by
  rw [enterSeeding_eq]
  refine station_leavesSeeding (frontInv_seedingEntered s) ?_
  refine stationCore_entered (st := .seeding) (c := { s.ctrl with lockOpen := false, setupHold := none }) rfl ⟨rfl, rfl⟩
    nofun (iff_of_true rfl rfl) rfl rfl nofun rfl hfailures fun _ => ⟨rfl, fun c => ?_⟩
  show (startedChans s.ctrl.block s.chans)[c].state ≠ _ ∧ (startedChans s.ctrl.block s.chans)[c].state ≠ _
  rw [startedChans_get]
  split <;> exact ⟨nofun, nofun⟩

end

end Sys2Proof.Machine
end

section
/-! PROOF. The station controller and the front end stay coherent through every conversion and every step. -/

namespace Sys2Proof.Machine

/-- A record neither contends for its group nor holds it. -/
def NotHolding (r : Chan) : Prop := r.state ≠ .contending ∧ r.state ≠ .pressed

section
variable {s t u : State} {c : Channel} {n : Nat} {r : Chan}

theorem notHolding_of {st : ChanState} (h : r.state = st) (hst : st ≠ .contending ∧ st ≠ .pressed) : NotHolding r := by
  unfold NotHolding
  rw [h]
  exact hst

theorem notHolding_of_state {r' : Chan} (h : r'.state = r.state) (hr : NotHolding r) : NotHolding r' := by
  unfold NotHolding
  rw [h]
  exact hr

theorem trackIdle_state (period b n : Nat) (r : Chan) : (trackIdle period b n r).state = r.state := by
  unfold trackIdle
  dsimp only
  split_ifs <;> rfl

/-! ### A count holds no group (02, R19) -/

theorem NotHolding.processCount (h : NotHolding r) (st : Settings) (hushed : Bool) (n : Nat) :
    NotHolding (processCount st hushed n r).1 := by
  unfold Machine.processCount
  split
  next _ hs =>
    obtain hout | hout := seedCount_state (paused := hushed) (n := n) hs
    · exact notHolding_of hout ⟨nofun, nofun⟩
    · exact notHolding_of hout ⟨nofun, nofun⟩
  next b hs _ =>
    unfold idleCount
    dsimp only
    split
    · exact h
    · split
      · split <;> exact ⟨nofun, nofun⟩
      · exact notHolding_of_state (trackIdle_state ..) h
  next b hs _ =>
    unfold armingCount
    dsimp only
    split_ifs
    · exact ⟨nofun, nofun⟩
    · exact h
    · exact ⟨nofun, nofun⟩
  next b hs _ =>
    unfold claimSideCount
    dsimp only
    split_ifs <;> exact h
  next hs _ => exact absurd hs h.1
  next hs _ => exact absurd hs h.2
  next b hs _ =>
    unfold claimSideCount
    dsimp only
    split_ifs <;> exact h
  next => exact h

/-- One record written that holds no group. -/
theorem notHolding_set (hu : u.chans = s.chans.set c r) (h : ∀ d : Channel, NotHolding s.chans[d])
    (hr : NotHolding r) : ∀ d : Channel, NotHolding u.chans[d] := by
  intro d
  rw [hu, set_get]
  split
  · exact hr
  · exact h d

theorem faultedCount_notHolding (h : ∀ d : Channel, NotHolding s.chans[d]) :
    ∀ d : Channel, NotHolding (faultedCount c n s).chans[d] := by
  unfold faultedCount
  dsimp only
  split
  · exact notHolding_set rfl h ⟨nofun, nofun⟩
  · exact notHolding_set rfl h (h c)

theorem KeyCounted.notHolding (hcounted : KeyCounted c n s u) (h : ∀ d : Channel, NotHolding s.chans[d]) :
    ∀ d : Channel, NotHolding u.chans[d] := by
  cases hcounted with
  | off => exact notHolding_set rfl h (h c)
  | faulted => exact faultedCount_notHolding h
  | faults =>
    have hchans : (keyFault c n s).chans = s.chans.set c (toFaulted { s.chans[c] with count := some n }) := by
      simp [keyFault]
    exact notHolding_set hchans h ⟨nofun, nofun⟩
  | counts =>
    have hout : NotHolding (processCount s.tracker.settings s.tracker.hushed n (countedChan s c n)).1 :=
      NotHolding.processCount (r := countedChan s c n) (h c) _ _ _
    refine notHolding_set (carryOut_chans c _ s) h ?_
    split
    · exact ⟨nofun, nofun⟩
    · exact hout

theorem RefCounted.notHolding (hcounted : RefCounted c n s u) (h : ∀ d : Channel, NotHolding s.chans[d]) :
    ∀ d : Channel, NotHolding u.chans[d] := by
  cases hcounted with
  | off => exact notHolding_set rfl h (h c)
  | faulted => exact faultedCount_notHolding h
  | faults =>
    exact notHolding_set (r := toFaulted { s.chans[c] with count := some n }) (by rw [refFault_eq]) h ⟨nofun, nofun⟩
  | seeds hs =>
    refine notHolding_set (r := refSeedCount n (countedChan s c n)) rfl h ?_
    unfold NotHolding
    rw [refSeedCount_state]
    obtain hout | hout := seedCount_state (paused := false) (n := n) (r := countedChan s c n) hs
    · exact notHolding_of hout ⟨nofun, nofun⟩
    · exact notHolding_of hout ⟨nofun, nofun⟩
  | hushed =>
    rw [refHushedCount_eq]
    split_ifs
    · exact notHolding_set rfl h (h c)
    · exact notHolding_set rfl h (h c)
    · exact notHolding_set rfl h (h c)
  | @quiet b =>
    unfold refIdleCount
    split
    next =>
      intro d
      exact (hushOn_moves (on := false) _ _ d).notHolding
        (notHolding_set (r := { countedChan s c n with deviation := some (deviationOf b n) }) rfl h (h c) d)
    next => exact notHolding_set rfl h (h c)
  | other => exact notHolding_set rfl h (h c)

/-! ### Outside ONLINE a count leaves the queue (06, R118) -/

theorem KeyCounted.queue_offline (hcounted : KeyCounted c n s u) (h : s.ctrl.state ≠ .online) : u.queue = s.queue := by
  cases hcounted with
  | off => rfl
  | faulted =>
    unfold faultedCount
    dsimp only
    split <;> rfl
  | faults => exact leaveClaimSide_offline (s := s.put (.channelFault s.number c)) h .fault c
  | counts =>
    unfold carryOut
    split
    · rfl
    · exact activity_offline (s := s.setChan c _) h true
    · exact activity_offline (s := s.setChan c _) h true
    · exact leaveClaimSide_offline h .withdrawn c

theorem slotAfterHush_offline (h : s.ctrl.state ≠ .online) (g : Group) (sl : GroupSlot) : slotAfterHush s g sl = sl :=
  slotAfterHush_of_not fun _ _ hc => h hc.1

theorem hushOn_offline (h : s.ctrl.state ≠ .online) (deviation : Nat) : (hushOn deviation s).queue = s.queue := by
  have hkept : each (slotAfterHush s) s.queue.groups = s.queue.groups :=
    each_kept fun g => slotAfterHush_offline h g _
  rw [hushOn_eq, hkept]

theorem RefCounted.queue_offline (hcounted : RefCounted c n s u) (h : s.ctrl.state ≠ .online) : u.queue = s.queue := by
  cases hcounted with
  | off | seeds | other => rfl
  | faulted =>
    unfold faultedCount
    dsimp only
    split <;> rfl
  | faults => rw [refFault_eq]
  | hushed =>
    rw [refHushedCount_eq]
    split_ifs <;> rfl
  | quiet =>
    unfold refIdleCount
    split
    next =>
      exact hushOn_offline (s := s.setChan c _) h _
    next => rfl

/-! ### Hush, by a count of the reference (02, R35 to R38) -/

theorem RefCounted.hush (hcounted : RefCounted c n s u) (h : s.tracker.settle.isSome = s.tracker.hushed) :
    u.tracker.settle.isSome = u.tracker.hushed := by
  cases hcounted with
  | off | seeds | other => exact h
  | faulted =>
    rw [faultedCount_tracker]
    exact h
  | faults =>
    rw [refFault_eq]
    dsimp only
    split
    · rfl
    · exact h
  | hushed _ _ hhushed =>
    rw [refHushedCount_eq]
    split_ifs
    · exact hhushed.symm
    · exact hhushed.symm
    · rfl
  | quiet =>
    unfold refIdleCount
    split
    · rw [hushOn_eq]
      rfl
    · exact h

theorem slotConversion_hush (slot : Slot) (h : s.tracker.settle.isSome = s.tracker.hushed) :
    (slotConversion slot n s).tracker.settle.isSome = (slotConversion slot n s).tracker.hushed := by
  unfold slotConversion
  split
  · simpa using h
  · split
    · exact (refConversion_cases _ n s).hush h
    · exact h

/-! ### A conversion (01, R3; 08, R143) -/

theorem slotConversion_offline (slot : Slot) (h : s.ctrl.state ≠ .online) :
    (slotConversion slot n s).queue = s.queue
      ∧ ((∀ d : Channel, NotHolding s.chans[d]) → ∀ d : Channel, NotHolding (slotConversion slot n s).chans[d]) := by
  unfold slotConversion
  split
  next c =>
    have hcounted := keyCount_cases c n s
    have hstill : (keyCount c n s).ctrl.state ≠ .online := by simpa using h
    rw [keyConversion, evaluate_offline _ _ (online_eq_false hstill)]
    exact ⟨hcounted.queue_offline h, hcounted.notHolding⟩
  next =>
    split
    next c href =>
      have hcounted := refConversion_cases c n s
      exact ⟨hcounted.queue_offline h, hcounted.notHolding⟩
    next => exact ⟨rfl, id⟩

theorem StationCore.converted (h : StationCore s) (slot : Slot) (n : Nat) (hscan : scanning s.ctrl.state = true) :
    StationCore (slotConversion slot n s) := by
  obtain ⟨-, -, -, -, -, hlink, -, hctrl, -⟩ := slotConversion_keeps s slot n
  exact {
    lock := by rw [hctrl]; exact h.lock
    listen := by rw [hctrl]; exact h.listen
    mute := by rw [hctrl]; exact h.mute
    hold := by rw [hctrl]; exact h.hold
    leave := by rw [hctrl]; exact h.leave
    line := by rw [hctrl, hlink]; exact h.line
    attempt := by rw [hctrl, hlink]; exact h.attempt
    linkLow := by rw [hlink]; exact h.linkLow
    hushed := by rw [hctrl]; exact fun _ => hscan
    settle := slotConversion_hush slot h.settle
    failures := by rw [hlink]; exact h.failures
    outside := by
      rw [hctrl, hlink]
      intro hoff
      obtain ⟨hfailures, hqueue, hchans⟩ := h.outside hoff
      obtain ⟨hqueue', hchans'⟩ := slotConversion_offline (n := n) slot hoff
      exact ⟨hfailures, hqueue'.trans hqueue, hchans' hchans⟩ }

/-- A conversion in progress is in a scan phase, of a station that scans. -/
theorem FrontInv.scans (h : FrontInv s) {slot : Slot} {us : Nat} (hconv : s.front.conversion = some (slot, us)) :
    scanning s.ctrl.state = true ∧ s.front.waitTimer = none := by
  obtain ⟨hphase, hwait, hposition, hconversion, -⟩ := h
  have hsome : s.front.position.isSome = true := by rw [← hconversion, hconv]; rfl
  have hscan := hposition.mp hsome
  refine ⟨by rw [← hphase, hscan]; rfl, ?_⟩
  rw [← Option.not_isSome_iff_eq_none, hwait, hscan]
  exact nofun

theorem nextSlot_mem {slot next : Slot} {l : List Slot} (h : nextSlot l slot = some next) : next ∈ l := by
  induction l with
  | nil => cases h
  | cons a rest ih =>
    cases rest with
    | nil => cases h
    | cons b rest =>
      rw [nextSlot] at h
      split at h
      · cases h
        exact List.mem_cons_of_mem _ List.mem_cons_self
      · exact List.mem_cons_of_mem _ (ih h)

/-- The front end alone changes. -/
theorem Sound.withFront (hs : Sound s) {front : FrontEnd} (h : FrontInv { s with front := front }) :
    Sound { s with front := front } := by
  obtain ⟨-, hstation⟩ := hs
  obtain ⟨hcore, hseeds⟩ := stationInv_iff.mp hstation
  exact ⟨h, stationInv_iff.mpr ⟨{ hcore with }, hseeds⟩⟩

theorem Sound.scanProceeds (hs : Sound s) (slot : Slot) (hscan : scanning s.ctrl.state = true)
    (hwait : s.front.waitTimer = none) : Sound (scanProceeds slot s) := by
  unfold Machine.scanProceeds
  split
  next next hnext =>
    refine hs.withFront (hs.1.converting (us := conversionUs s next) (nextSlot_mem hnext)
      hscan ?_ rfl (fun _ => rfl) rfl)
    dsimp only
    rw [hwait]
  next => exact hs.withFront (hs.1.waiting hscan rfl rfl (fun _ => rfl) rfl)

theorem Sound.converted (hs : Sound s) (slot : Slot) (n : Nat) (hconv : s.front.conversion = some (slot, 0)) :
    Sound (Machine.scanProceeds slot (seedingReport (slotConversion slot n s))) := by
  obtain ⟨hscan, hwait⟩ := hs.1.scans hconv
  have hkey : ∀ c, (slotConversion slot n s).isKey c = s.isKey c := fun c => by
    simp only [State.isKey, slotConversion_setup, slotConversion_settings]
  have hfront : FrontInv (slotConversion slot n s) := hs.1.kept (slotConversion_front slot n s) (by simp) hkey
    (slotConversion_settings slot n s)
  have hended := station_leavesSeeding hfront (hs.core.converted slot n hscan)
  rw [seedingReport_eq]
  refine hended.scanProceeds slot ?_ ?_
  · unfold leavesSeeding
    split
    · rfl
    · simpa using hscan
  · rw [leavesSeeding_front, slotConversion_front]
    exact hwait

theorem Sound.waited (hs : Sound s) (hwait : s.front.waitTimer = some 0) : Sound (beginScan s) := by
  obtain ⟨hphase, hwaits, -⟩ := hs.1
  have hscan : scanning s.ctrl.state = true := by
    rw [← hphase, hwaits.mp (by rw [hwait]; rfl)]
    rfl
  unfold beginScan
  dsimp only
  split
  next => exact hs.withFront (hs.1.waiting hscan rfl rfl (fun _ => rfl) rfl)
  next slot rest hlist =>
    refine hs.withFront (hs.1.converting (slot := slot) ?_ hscan rfl rfl (fun _ => rfl) rfl)
    rw [hlist]
    exact List.mem_cons_self

/-! ### Time (log 3) -/

theorem Sound.elapse (hs : Sound s) (us : Nat) : Sound (elapse us s) := by
  have hm (on : Bool) := elapse_moves on s us
  obtain ⟨hfront, hstation⟩ := hs
  obtain ⟨hcore, hseeds⟩ := stationInv_iff.mp hstation
  refine ⟨?_, stationInv_iff.mpr ⟨?_, fun hstate => ?_⟩⟩
  · obtain ⟨hphase, hwait, hposition, hconv, hlisted, hkeys, href⟩ := hfront
    refine ⟨hphase, ?_, hposition, ?_, hlisted, fun c hc => ((hm true).isKey rfl c).trans (hkeys c hc), href⟩
    · show (runDown us s.front.waitTimer).isSome = true ↔ _
      rw [runDown_isSome]
      exact hwait
    · show (s.front.conversion.map _).map _ = _
      rw [Option.map_map]
      exact hconv
  · exact { hcore with
      listen := (iff_of_eq (congrArg (· = true) (runDown_isSome us _))).trans hcore.listen
      mute := (iff_of_eq (congrArg (· = true) (runDown_isSome us _))).trans hcore.mute
      hold := fun h => hcore.hold ((runDown_isSome us _).symm.trans h)
      outside := fun hoff => by
        obtain ⟨hfailures, hqueue, hchans⟩ := hcore.outside hoff
        refine ⟨hfailures, ?_, fun c => (hm false c).notHolding (hchans c)⟩
        show { s.queue with intervalTimer := runDown us s.queue.intervalTimer } = _
        rw [hqueue]
        rfl }
  · obtain ⟨c, hc⟩ := hseeds hstate
    exact ⟨c, (hm true c).seeding hc⟩

/-- A bit time's bit, whatever the line: a STOPPED one reads none (05, R87). -/
theorem Sound.bitRead (hs : Sound s) (bit : Bool) : Sound { s with link := Machine.linkReads bit s.link } := by
  by_cases hline : s.link.line = .stopped
  · have hnone : s.link.attempt = none := by
      rw [← Option.not_isSome_iff_eq_none]
      intro hsome
      have hrecv := hs.core.line.mp hline
      rw [hs.core.attempt hsome] at hrecv
      cases hrecv
    have hkept : Machine.linkReads bit s.link = s.link := by
      simp only [Machine.linkReads, hnone, hline, lineReads]
      rw [← hnone, ← hline]
    rw [hkept]
    exact hs
  · exact hs.linkReads bit hline

theorem Sound.idle (hs : Sound s) : Sound (idle s) := by
  unfold Machine.idle
  split
  · exact hs
  · exact (hs.elapse _).bitRead (s.wire.head?.getD true)

theorem Sound.change (hs : Sound s) (hc : Change s t) : Sound t := by
  cases hc with
  | nothing => exact hs
  | taken => exact hs.aside rfl rfl rfl rfl hs.emptyQueue (.refl s)
  | converted slot n hconv => exact hs.converted slot n hconv
  | waited hwait => exact hs.waited hwait
  | ownHeard a _ _ hatt => exact hs.ownHeard hatt
  | peerHeard f _ hrecv hnone hpeer => exact hs.heard hrecv hnone hpeer
  | twinHeard hrecv =>
    refine hs.stopped (.inl rfl) (fun hc => ?_) rfl rfl rfl (.refl s)
    rw [hc] at hrecv
    cases hrecv
  | discarded bits run hline => exact hs.withLine _ (by rw [hline]; exact nofun) nofun
  | turnedIdle run hline => exact hs.withLine s.link.rxErrors (by rw [hline]; exact nofun) nofun
  | startBit hline => exact hs.linkReads false (by rw [hline]; exact nofun)
  | attemptStarted slot f honline => exact hs.started slot f honline
  | attemptFailed a hatt => exact hs.attemptFailed hatt
  | arbitrationLost a bit hatt => exact hs.arbitrationLost a bit hatt
  | contestEnded g h st abandon => exact hs.contestEnded g _ _
  | abandonEnded g => exact hs.abandonEnded g
  | guardEnded g => exact hs.guardEnded g _ _
  | holdEnded c hstate => exact hs.holdEnded hstate
  | intervalEnded => exact hs.intervalEnded
  | peerLost p => exact hs.peerLost p
  | quietEnded => exact hs.quietEnded _ _
  | setupRefused => exact hs.setupRefused
  | joined hstate => exact station_enterSeeding (hs.failures (by rw [hstate]; exact nofun))
  | rejoined hstate => exact station_enterSeeding (hs.failures (by rw [hstate]; exact nofun))
  | restarted => rw [restartStation_eq]; exact station_enterSeeding rfl
  | listenEnded hstate => exact hs.listenEnded hstate
  | muteEnded hstate => exact hs.muteEnded hstate
  | reseeded c _ hoff => exact hs.reseeded hoff
  | recalQueued honline => exact hs.recalQueued honline true
  | leaveAsked honline => exact (hs.leavePending honline true).pulseRequested false
  | left hstate =>
    refine hs.stopped (.inr rfl) (fun hc => ?_) rfl rfl rfl (.refl s)
    rw [hc] at hstate
    obtain h | h | h := hstate <;> cases h
  | cleared => exact hs.cleared _ _ _ _

theorem Sound.stepWay (hs : Sound s) (hway : StepWay s t) : Sound t := by
  cases hway with
  | idled => exact hs.idle
  | ticked => exact hs.elapse (msUs - s.sinceTick)
  | reset straps => exact ⟨frontInv_reset straps, stationInv_reset straps⟩
  | held =>
    have hreset : Sound (State.resetWith s.ctrl.straps) :=
      ⟨frontInv_reset s.ctrl.straps, stationInv_reset s.ctrl.straps⟩
    exact hreset.setupRefused
  | setupWritten =>
    obtain ⟨hfront, hstation⟩ := hs
    obtain ⟨hcore, hseeds⟩ := stationInv_iff.mp hstation
    exact ⟨hfront, stationInv_iff.mpr ⟨{ hcore with }, hseeds⟩⟩
  | changed hc port =>
    have hchanged := hs.change hc
    exact hchanged

end

/-- Settles O53: what runs in a station state and what it excludes stays so within it, and every change of state
leaves the station coherent in the state it enters. -/
theorem everyStepKeepsTheStationCoherent : Obligations.EveryStepKeepsTheStationCoherent := by
  intro s t hfront hstation hstep
  obtain ⟨rest, hway⟩ := step_way hstep
  have hs : Sound { s with pending := rest } := ⟨hfront, hstation⟩
  exact hs.stepWay hway

end Sys2Proof.Machine
end

section
/-! PROOF. What every operation keeps of the transmit queue while a slot is in flight (06, R105, R106, R108 to R113). -/

namespace Sys2Proof.Machine

/-- A follow-up stands only behind a CLAIM or a CONFIRM in flight (06, R110). -/
def SlotOk (flying : Bool) (sl : GroupSlot) : Prop :=
  sl.followUp.isSome = true → flying = true ∧ (sl.frame.any fun f => isClaim f || isConfirm f) = true

/-- A group slot that an operation makes of another: its follow-up stands right if the other's did and, where `held`,
a frame in flight stays. -/
structure SlotMove (held flying : Bool) (sl sl' : GroupSlot) : Prop where
  followUp : SlotOk flying sl → SlotOk flying sl'
  frame : held = true → flying = true → sl.frame.isSome = true → sl'.frame.isSome = true

/-- What an operation makes of the queue with the same slot in flight; where `held`, the frame in flight stays. -/
structure QueueMove (held : Bool) (q q' : TxQueue) : Prop where
  inFlight : q'.inFlight = q.inFlight
  slots : ∀ g : Group, SlotMove held (decide (q.inFlight = some (.group g))) q.groups[g] q'.groups[g]
  recal : held = true → q.recal = true → q'.recal = true
  pulse : held = true → q.pulse = true → q'.pulse = true
  renewal : q'.renewal = true → q.renewal = true ∨ q.inFlight = some .pulse
  withdrawn : q'.withdrawnInFlight = true → q.withdrawnInFlight = true ∨ ∃ g, q.inFlight = some (.group g)

section
variable {held flying : Bool} {sl sl' sl'' : GroupSlot} {q q' q'' : TxQueue}

/-! ### One slot -/

theorem SlotMove.refl (held flying : Bool) (sl : GroupSlot) : SlotMove held flying sl sl := ⟨id, fun _ _ h => h⟩

theorem SlotMove.trans (h : SlotMove held flying sl sl') (h' : SlotMove held flying sl' sl'') :
    SlotMove held flying sl sl'' :=
  ⟨fun hok => h'.followUp (h.followUp hok), fun hheld hfly hsome => h'.frame hheld hfly (h.frame hheld hfly hsome)⟩

/-- A frame in flight stands, and a follow-up is one that stood or is set behind a CLAIM or CONFIRM in flight. -/
theorem SlotMove.of_stands (hframe : flying = true → sl.frame.isSome = true → sl'.frame = sl.frame)
    (hfollow : sl'.followUp.isSome = true → sl.followUp.isSome = true
      ∨ (flying = true ∧ (sl'.frame.any fun f => isClaim f || isConfirm f) = true)) : SlotMove held flying sl sl' where
  followUp hok h := by
    obtain hstood | hset := hfollow h
    · obtain ⟨hfly, hany⟩ := hok hstood
      refine ⟨hfly, ?_⟩
      have hsome : sl.frame.isSome = true := by
        cases hf : sl.frame with
        | none => rw [hf] at hany; cases hany
        | some f => rfl
      rw [hframe hfly hsome]
      exact hany
    · exact hset
  frame _ hfly hsome := by rw [hframe hfly hsome]; exact hsome

/-! ### The queue -/

theorem QueueMove.refl (held : Bool) (q : TxQueue) : QueueMove held q q :=
  ⟨rfl, fun _ => .refl _ _ _, fun _ h => h, fun _ h => h, .inl, .inl⟩

theorem QueueMove.of_eq (h : q' = q) : QueueMove held q q' := h ▸ .refl held q

theorem QueueMove.trans (h : QueueMove held q q') (h' : QueueMove held q' q'') : QueueMove held q q'' where
  inFlight := h'.inFlight.trans h.inFlight
  slots g := (h.slots g).trans (h.inFlight ▸ h'.slots g)
  recal hheld hr := h'.recal hheld (h.recal hheld hr)
  pulse hheld hp := h'.pulse hheld (h.pulse hheld hp)
  renewal hr := by
    obtain hr | hr := h'.renewal hr
    · exact h.renewal hr
    · exact .inr (h.inFlight ▸ hr)
  withdrawn hw := by
    obtain hw | hw := h'.withdrawn hw
    · exact h.withdrawn hw
    · exact .inr (h.inFlight ▸ hw)

/-- An operation that need not keep the frame in flight does no more where it does keep it. -/
theorem QueueMove.loose (h : QueueMove true q q') : QueueMove held q q' where
  inFlight := h.inFlight
  slots g := ⟨(h.slots g).followUp, fun _ => (h.slots g).frame rfl⟩
  recal _ := h.recal rfl
  pulse _ := h.pulse rfl
  renewal := h.renewal
  withdrawn := h.withdrawn

/-- One group's slot written. -/
theorem QueueMove.setSlot {g : Group} (h : SlotMove held (decide (q.inFlight = some (.group g))) q.groups[g] sl) :
    QueueMove held q (setSlot q g sl) where
  inFlight := rfl
  slots d := by
    rw [setSlot_groups, set_get]
    split
    next hd => subst hd; exact h
    next => exact .refl _ _ _
  recal _ hr := hr
  pulse _ hp := hp
  renewal := .inl
  withdrawn := .inl

/-- Every group's slot written by one function. -/
theorem QueueMove.each {f : Group → GroupSlot → GroupSlot}
    (h : ∀ g, SlotMove held (decide (q.inFlight = some (.group g))) q.groups[g] (f g q.groups[g])) :
    QueueMove held q { q with groups := each f q.groups } where
  inFlight := rfl
  slots d := by
    dsimp only
    rw [each_get]
    exact h d
  recal _ hr := hr
  pulse _ hp := hp
  renewal := .inl
  withdrawn := .inl

/-! ### Requests (06, R108 to R113) -/

theorem pulseRequest_move (routine : Bool) (q : TxQueue) : QueueMove held q (pulseRequest routine q) := by
  unfold pulseRequest
  split
  · exact ⟨rfl, fun _ => .refl _ _ _, fun _ h => h, fun _ _ => rfl, .inl, .inl⟩
  · split
    next h => exact ⟨rfl, fun _ => .refl _ _ _, fun _ h => h, fun _ h => h, fun _ => .inr h.1, .inl⟩
    next => exact .refl _ _

theorem confirmRequest_move (g : Group) (c : Channel) (q : TxQueue) : QueueMove held q (confirmRequest g c q) := by
  unfold confirmRequest
  split
  next hframe => exact .setSlot (.of_stands (fun _ h => by rw [hframe] at h; cases h) .inl)
  next =>
    split
    next => exact .refl _ _
    next hfly => exact .setSlot (.of_stands (fun h => absurd h hfly) .inl)
  next => exact .refl _ _

theorem releaseRequest_move (g : Group) (c : Channel) (reason : Reason) (q : TxQueue) :
    QueueMove held q (releaseRequest g c reason q) := by
  unfold releaseRequest
  dsimp only
  split
  next => exact .refl _ _
  next hnone =>
    split
    next hframe => exact .setSlot (.of_stands (fun _ h => by rw [hframe] at h; cases h) .inl)
    next c' hframe =>
      split
      next => exact .refl _ _
      next =>
        split
        next hfly => exact .setSlot (.of_stands (fun _ _ => rfl) fun _ => .inr ⟨hfly, by dsimp only; rw [hframe]; rfl⟩)
        next hfly => exact .setSlot (.of_stands (fun h => absurd h hfly) .inl)
    next c' hframe =>
      split
      next hfly => exact .setSlot (.of_stands (fun _ _ => rfl) fun _ => .inr ⟨hfly, by dsimp only; rw [hframe]; rfl⟩)
      next hfly =>
        split
        · exact .setSlot (.of_stands (fun h => absurd h hfly) .inl)
        · exact .setSlot (.of_stands (fun h => absurd h hfly) .inl)
    next => exact .refl _ _

/-! ### Withdrawals (06, R111) -/

theorem slotAfterWithdrawal_move (names : Channel → Bool) (sl : GroupSlot) :
    SlotMove held flying sl (slotAfterWithdrawal flying names sl) := by
  refine .of_stands (fun hfly _ => ?_) fun h => .inl ?_
  · simp [slotAfterWithdrawal, hfly]
  · unfold slotAfterWithdrawal at h
    dsimp only at h
    split at h
    · cases h
    · exact h

theorem withdrawn_move {g : Group} {names : Channel → Bool} : QueueMove held q {
    setSlot q g (slotAfterWithdrawal (decide (q.inFlight = some (.group g))) names q.groups[g]) with
    withdrawnInFlight := q.withdrawnInFlight || markedWithdrawn q g names } := by
  have hset : QueueMove held q
      (Machine.setSlot q g (slotAfterWithdrawal (decide (q.inFlight = some (.group g))) names q.groups[g])) :=
    .setSlot (slotAfterWithdrawal_move names _)
  refine { hset with withdrawn := fun hw => ?_ }
  obtain hw | hw := (Bool.or_eq_true ..).mp hw
  · exact .inl hw
  · exact .inr ⟨g, of_decide_eq_true ((Bool.and_eq_true ..).mp hw).1⟩

theorem withdrawFor_move (g : Group) (c : Channel) (q : TxQueue) : QueueMove held q (withdrawFor g c q) := by
  rw [withdrawFor_eq]
  exact withdrawn_move

theorem withdrawGroup_move (g : Group) (q : TxQueue) : QueueMove held q (withdrawGroup g q) := by
  rw [withdrawGroup_eq]
  exact withdrawn_move

/-- A RECAL heard drops every group's frame and follow-up, one in flight too (06, R112). -/
theorem dropForRecal_move (q : TxQueue) : QueueMove false q (dropForRecal q) where
  inFlight := rfl
  slots g := by
    have hslot : (dropForRecal q).groups[g] = emptySlot := emptyQueue_slot g
    rw [hslot]
    exact ⟨fun _ => nofun, nofun⟩
  recal := nofun
  pulse := nofun
  renewal := .inl
  withdrawn := .inl

end

/-! ### The station's operations -/

section
variable {held : Bool} (s : State)

theorem requestPulse_move (routine : Bool) : QueueMove held s.queue (s.requestPulse routine).queue := by
  unfold State.requestPulse
  split
  · exact pulseRequest_move routine s.queue
  · exact .refl _ _

theorem requestConfirm_move (g : Group) (c : Channel) : QueueMove held s.queue (s.requestConfirm g c).queue := by
  unfold State.requestConfirm
  split
  · exact confirmRequest_move g c s.queue
  · exact .refl _ _

theorem requestRelease_move (g : Group) (c : Channel) (reason : Reason) :
    QueueMove held s.queue (s.requestRelease g c reason).queue := by
  unfold State.requestRelease
  split
  · exact releaseRequest_move g c reason s.queue
  · exact .refl _ _

theorem leaveClaimSide_move (reason : Reason) (c : Channel) :
    QueueMove held s.queue (leaveClaimSide reason c s).queue := by
  unfold leaveClaimSide
  dsimp only
  split
  · split
    · exact requestRelease_move s _ c reason
    · exact .refl _ _
  · have hmove := requestRelease_move (held := held) (stopContest s.chans[c].setup.group c s)
      s.chans[c].setup.group c reason
    have hqueue : (stopContest s.chans[c].setup.group c s).queue = s.queue := by simp
    rwa [hqueue] at hmove
  · exact requestRelease_move s _ c _
  · exact .refl _ _

theorem changeCadence_move (c : Cadence) : QueueMove held s.queue (changeCadence c s).queue := by
  have hqueue : (({ s with cad := { s.cad with cadence := c } }).put (.cadence s.number c)).queue = s.queue := rfl
  rw [← hqueue]
  exact requestPulse_move _ false

theorem activity_move (isLocal : Bool) : QueueMove held s.queue (activity isLocal s).queue := by
  cases isLocal with
  | true =>
    rw [activity_true_eq]
    dsimp only
    split
    · exact pulseRequest_move false s.queue
    · exact .refl _ _
  | false =>
    rw [activity_false_eq]
    show QueueMove held s.queue (queueAtWake s s.queue)
    unfold queueAtWake
    split
    · rw [← pulseRequest_false]
      exact pulseRequest_move false s.queue
    · exact .refl _ _

theorem cadenceHears_move (f : Frame) (old : Vector Entry 8) : QueueMove held s.queue (cadenceHears f old s).queue := by
  unfold cadenceHears
  dsimp only
  have hreport : (if isRecal f || anyChanged old s.table.entries then reportTable s else s).queue = s.queue := by
    split <;> simp
  generalize (if isRecal f || anyChanged old s.table.entries then reportTable s else s) = u at hreport ⊢
  rw [← hreport]
  split
  · exact activity_move u false
  · exact .refl _ _

theorem evaluatedSlot_move (g : Group) :
    SlotMove held (decide (s.queue.inFlight = some (.group g))) s.queue.groups[g] (evaluatedSlot s g) := by
  refine .of_stands (fun hfly hsome => ?_) fun h => .inl (by rw [← evaluatedSlot_followUp]; exact h)
  obtain ⟨f, hf⟩ := Option.isSome_iff_exists.mp hsome
  rw [hf]
  exact evaluatedSlot_stands hf (.inl (of_decide_eq_true hfly))

theorem evaluate_move (which : Group → Bool) : QueueMove held s.queue (evaluate which s).queue := by
  unfold evaluate
  split
  · refine .each (f := fun g sl => if which g then evaluatedSlot s g else sl) fun g => ?_
    split
    · exact evaluatedSlot_move s g
    · exact .refl _ _ _
  · exact .refl _ _

theorem handOnChanges_move (old : Vector Entry 8) : QueueMove held s.queue (handOnChanges old s).queue := by
  rw [handOnChanges_eq]
  generalize hu : ({ s with cad := _ } : State) = u
  have hqueue : u.queue = s.queue := by rw [← hu]
  rw [← hqueue]
  exact evaluate_move u _

theorem holderLoses_move (g : Group) (holder : Holder) : QueueMove held s.queue (holderLoses g holder s).queue := by
  unfold holderLoses
  split
  · have hqueue : (loseContest holder.channel s).queue = s.queue := by simp
    generalize loseContest holder.channel s = u at hqueue ⊢
    rw [← hqueue]
    exact withdrawFor_move g holder.channel u.queue
  · exact .refl _ _

theorem resync_move (p : Station) (holdings : List (Group × Channel)) :
    QueueMove held s.queue (resync p holdings s).queue := by
  unfold resync
  induction List.finRange 8 generalizing s with
  | nil => exact .refl _ _
  | cons g gs ih =>
    refine QueueMove.trans ?_ (ih _)
    have hset (u : State) (c : Channel) (r : Chan) : (u.setChan c r).queue = u.queue := rfl
    unfold resyncGroup
    dsimp only
    split
    · split
      · exact withdrawGroup_move g s.queue
      · exact withdrawGroup_move g s.queue
    · exact .refl _ _

theorem tableHears_move (f : Frame) : QueueMove false s.queue (tableHears f s).queue := by
  cases f with
  | recal =>
    show QueueMove false s.queue (recalHeard s).queue
    have hqueue : (recalHeard s).queue = dropForRecal s.queue := recalHeard_queue s
    rw [hqueue]
    exact dropForRecal_move s.queue
  | release p g c reason => exact .of_eq (by simp [tableHears])
  | confirm p g c => exact .of_eq (by simp [tableHears])
  | claim strength p g c =>
    show QueueMove false s.queue (claimHeard _ g strength s).queue
    unfold claimHeard
    split
    · exact .of_eq (by simp)
    · exact .of_eq (by simp)
    · split
      · exact .of_eq (by simp)
      · split
        · rw [claimTakes_queue]
          exact holderLoses_move s g _
        · exact .of_eq (by simp)
    · split
      · exact .of_eq (by simp)
      · exact .of_eq (by simp)
  | pulse p fields =>
    show QueueMove false s.queue (if p = s.number ∨ fields.leaving = true then s else resync p fields.holdings s).queue
    split
    · exact .refl _ _
    · exact resync_move s p fields.holdings

theorem heardBy_move (f : Frame) : QueueMove false s.queue (heardBy f s).queue := by
  have hqueue : (rosterHears f (afterFrame s)).queue = s.queue := by simp [afterFrame]
  rw [← hqueue]
  exact tableHears_move _ f

theorem confirmAgain_move (g : Group) : QueueMove held s.queue (confirmAgain g s).queue := by
  unfold confirmAgain
  split
  · split
    · exact requestConfirm_move s g _
    · exact .refl _ _
  · exact .refl _ _

theorem confirmedAgain_move (slot : TxSlot) : QueueMove held s.queue (confirmedAgain slot s).queue := by
  unfold confirmedAgain
  split
  · exact confirmAgain_move s _
  · exact .refl _ _

theorem attemptEndHandled_move (slot : TxSlot) : QueueMove held s.queue (attemptEndHandled slot s).queue := by
  unfold attemptEndHandled
  split
  · exact (confirmAgain_move s _).trans (evaluate_move _ _)
  · exact .refl _ _

/-! ### A conversion -/

theorem slotAfterHush_move (g : Group) (sl : GroupSlot) :
    SlotMove held (decide (s.queue.inFlight = some (.group g))) sl (slotAfterHush s g sl) := by
  unfold slotAfterHush
  dsimp only
  split
  next d hframe hfollow =>
    split
    · unfold slotAfterLeave
      dsimp only
      rw [if_neg (not_not.mpr hframe)]
      split
      next hfly => exact .of_stands (fun _ _ => rfl) fun _ => .inr ⟨hfly, by dsimp only; rw [hframe]; rfl⟩
      next hfly => exact .of_stands (fun h => absurd h hfly) nofun
    · exact .refl _ _ _
  next => exact .refl _ _ _

theorem hushOn_move (deviation : Nat) : QueueMove held s.queue (hushOn deviation s).queue := by
  rw [hushOn_eq]
  exact .each fun g => slotAfterHush_move s g _

theorem keyCount_move (c : Channel) (n : Nat) : QueueMove held s.queue (keyCount c n s).queue := by
  have hcounted := keyCount_cases c n s
  generalize keyCount c n s = u at hcounted ⊢
  cases hcounted with
  | off => exact .refl _ _
  | faulted =>
    unfold faultedCount
    dsimp only
    split <;> exact .refl _ _
  | faults => exact leaveClaimSide_move (s.put (.channelFault s.number c)) .fault c
  | counts =>
    unfold carryOut
    split
    · exact .refl _ _
    · exact activity_move (s.setChan c _) true
    · exact activity_move (s.setChan c _) true
    · exact leaveClaimSide_move s .withdrawn c

theorem refConversion_move (c : Channel) (n : Nat) : QueueMove held s.queue (refConversion c n s).queue := by
  have hcounted := refConversion_cases c n s
  generalize refConversion c n s = u at hcounted ⊢
  cases hcounted with
  | off | seeds | other => exact .refl _ _
  | faulted =>
    unfold faultedCount
    dsimp only
    split <;> exact .refl _ _
  | faults => exact .of_eq (by rw [refFault_eq])
  | hushed =>
    rw [refHushedCount_eq]
    split_ifs <;> exact .refl _ _
  | quiet =>
    unfold refIdleCount
    split
    · exact hushOn_move (s.setChan c _) _
    · exact .refl _ _

theorem slotConversion_move (slot : Slot) (n : Nat) : QueueMove held s.queue (slotConversion slot n s).queue := by
  unfold slotConversion
  split
  next c =>
    have hcounted := keyCount_move (held := held) s c n
    unfold keyConversion
    generalize keyCount c n s = u at hcounted ⊢
    exact hcounted.trans (evaluate_move u _)
  next =>
    split
    · exact refConversion_move s _ n
    · exact .refl _ _

end

end Sys2Proof.Machine
end

section
/-! PROOF. The transmit queue stays coherent with the attempt (06, R105, R106, R110, R111, R113, R115, R116, R118). -/

namespace Sys2Proof.Machine

/-- What the marks and follow-ups of a queue say of the slot in flight. -/
structure QueueCore (q : TxQueue) : Prop where
  followUps : ∀ g : Group, SlotOk (decide (q.inFlight = some (.group g))) q.groups[g]
  renewal : q.renewal = true → q.inFlight = some .pulse
  withdrawn : q.withdrawnInFlight = true → ∃ g, q.inFlight = some (.group g)

/-- The slot in flight holds a frame. -/
def FlightHeld (q : TxQueue) : Prop := ∀ slot, q.inFlight = some slot → slotHeld q slot = true

section
variable {s t u : State} {q q' : TxQueue} {held : Bool}

theorem queueInv_iff : QueueInv s ↔ s.queue.inFlight = s.link.attempt.map Attempt.slot ∧ FlightHeld s.queue
    ∧ QueueCore s.queue := by
  constructor
  · rintro ⟨hslot, hheld, hfollow, hrenewal, hwithdrawn⟩
    refine ⟨hslot, fun slot hfly => ?_, fun g hsome => ?_, hrenewal, fun hw => ?_⟩
    · rwa [hfly] at hheld
    · obtain ⟨hfly, hframe⟩ := hfollow g hsome
      exact ⟨decide_eq_true hfly, hframe⟩
    · have hgroup := hwithdrawn hw
      cases hfly : s.queue.inFlight with
      | none => rw [hfly] at hgroup; cases hgroup
      | some slot =>
        rw [hfly] at hgroup
        cases slot with
        | group g => exact ⟨g, rfl⟩
        | recal => cases hgroup
        | pulse => cases hgroup
  · rintro ⟨hslot, hheld, hfollow, hrenewal, hwithdrawn⟩
    refine ⟨hslot, ?_, fun g hsome => ?_, hrenewal, fun hw => ?_⟩
    · cases hfly : s.queue.inFlight with
      | none => rfl
      | some slot => exact hheld slot hfly
    · obtain ⟨hfly, hframe⟩ := hfollow g hsome
      exact ⟨of_decide_eq_true hfly, hframe⟩
    · obtain ⟨g, hfly⟩ := hwithdrawn hw
      rw [hfly]
      rfl

theorem QueueCore.move (h : QueueCore q) (hm : QueueMove held q q') : QueueCore q' where
  followUps g := by
    rw [hm.inFlight]
    exact (hm.slots g).followUp (h.followUps g)
  renewal hr := by
    rw [hm.inFlight]
    obtain hr | hr := hm.renewal hr
    · exact h.renewal hr
    · exact hr
  withdrawn hw := by
    rw [hm.inFlight]
    obtain hw | hw := hm.withdrawn hw
    · exact h.withdrawn hw
    · exact hw

theorem FlightHeld.move (h : FlightHeld q) (hm : QueueMove true q q') : FlightHeld q' := by
  intro slot hfly
  rw [hm.inFlight] at hfly
  have hslot := h slot hfly
  cases slot with
  | recal => exact hm.recal rfl hslot
  | pulse => exact hm.pulse rfl hslot
  | group g => exact (hm.slots g).frame rfl (decide_eq_true hfly) hslot

/-- An event that keeps the attempt. -/
theorem QueueInv.kept (h : QueueInv s) (hm : QueueMove true s.queue t.queue) (hatt : t.link.attempt = s.link.attempt) :
    QueueInv t := by
  obtain ⟨hslot, hheld, hcore⟩ := queueInv_iff.mp h
  exact queueInv_iff.mpr ⟨by rw [hm.inFlight, hatt]; exact hslot, hheld.move hm, hcore.move hm⟩

/-- No attempt, and so no slot in flight. -/
theorem queueInv_of_none (hcore : QueueCore t.queue) (hfly : t.queue.inFlight = none) (hatt : t.link.attempt = none) :
    QueueInv t :=
  queueInv_iff.mpr ⟨by rw [hfly, hatt]; rfl, fun slot h => absurd (hfly.symm.trans h) nofun, hcore⟩

theorem queueCore_empty : QueueCore emptyQueue where
  followUps g := by
    rw [emptyQueue_slot]
    exact nofun
  renewal := nofun
  withdrawn := nofun

theorem queueInv_of_empty (hqueue : t.queue = emptyQueue) (hatt : t.link.attempt = none) : QueueInv t :=
  queueInv_of_none (by rw [hqueue]; exact queueCore_empty) (by rw [hqueue]; rfl) hatt

/-! ### The end of an attempt (06, R115, R116) -/

/-- Nothing stands behind a frame that is no longer in flight. -/
theorem slotOk_of_none {flying : Bool} {sl : GroupSlot} (h : sl.followUp = none) : SlotOk flying sl := by
  intro hsome
  rw [h] at hsome
  cases hsome

/-- A slot that is not in flight has no follow-up. -/
theorem QueueCore.followUp_none (h : QueueCore q) {g : Group} (hfly : q.inFlight ≠ some (.group g)) :
    q.groups[g].followUp = none := by
  rw [← Option.not_isSome_iff_eq_none]
  exact fun hsome => hfly (of_decide_eq_true (h.followUps g hsome).1)

theorem QueueCore.renewal_off (h : QueueCore q) (hfly : q.inFlight ≠ some .pulse) : q.renewal = false := by
  rw [← Bool.not_eq_true]
  exact fun hr => hfly (h.renewal hr)

/-- The slot in flight dealt with, so that no follow-up stands in it, and the flight's marks cleared. -/
theorem QueueCore.cleared (h : QueueCore q) {q' : TxQueue}
    (hslots : ∀ g, q'.groups[g].followUp = none ∨ (q'.groups[g] = q.groups[g] ∧ q.inFlight ≠ some (.group g)))
    (hrenewal : q'.renewal = false) : QueueCore (clearFlight q') where
  followUps g := by
    refine slotOk_of_none ?_
    obtain hnone | ⟨hkept, hfly⟩ := hslots g
    · exact hnone
    · show q'.groups[g].followUp = none
      rw [hkept]
      exact h.followUp_none hfly
  renewal hr := by
    have hr' : q'.renewal = true := hr
    rw [hrenewal] at hr'
    cases hr'
  withdrawn := nofun

/-- The slot of a group in flight written without a follow-up. -/
theorem QueueCore.cleared_group (h : QueueCore q) {g : Group} (hfly : q.inFlight = some (.group g)) {sl : GroupSlot}
    (hsl : sl.followUp = none) : QueueCore (clearFlight (setSlot q g sl)) := by
  refine h.cleared (fun d => ?_) (h.renewal_off (by rw [hfly]; exact nofun))
  rw [setSlot_groups, set_get]
  split
  next => exact .inl hsl
  next hne => exact .inr ⟨rfl, by rw [hfly]; intro hc; cases hc; exact hne rfl⟩

theorem slotAtSuccess_followUp (heard : Frame) (withdrawn : Bool) (sl : GroupSlot) :
    (slotAtSuccess heard withdrawn sl).followUp = none := by
  unfold slotAtSuccess
  split
  · rfl
  · split <;> rfl

theorem QueueCore.success (h : QueueCore q) {slot : TxSlot} (hfly : q.inFlight = some slot) (heard : Frame) :
    QueueCore (queueSuccess slot heard q) := by
  cases slot with
  | recal =>
    exact h.cleared (fun g => .inr ⟨rfl, by rw [hfly]; exact nofun⟩) (h.renewal_off (by rw [hfly]; exact nofun))
  | pulse =>
    refine h.cleared (fun g => .inr ⟨?_, by rw [hfly]; exact nofun⟩) ?_
    · split <;> rfl
    · split
      · rfl
      next hr => exact Bool.not_eq_true _ ▸ hr
  | group g => exact h.cleared_group hfly (slotAtSuccess_followUp ..)

theorem slotAtEnd_followUp {flying : Bool} {sl : GroupSlot} (withdrawn : Bool) (h : SlotOk flying sl) :
    (slotAtEnd withdrawn sl).followUp = none := by
  unfold slotAtEnd
  split
  · rfl
  · split
    · split <;> rfl
    · rfl
    next hclaim hconfirm =>
      rw [← Option.not_isSome_iff_eq_none]
      intro hsome
      obtain ⟨-, hframe⟩ := h hsome
      obtain ⟨frame, followUp⟩ := sl
      obtain ⟨⟨d, reason⟩, hd⟩ := Option.isSome_iff_exists.mp hsome
      cases frame with
      | none => cases hframe
      | some f =>
        cases f with
        | claim c => exact hclaim c d reason rfl hd
        | confirm c => exact hconfirm c d reason rfl hd
        | release c r => cases hframe

theorem QueueCore.ended (h : QueueCore q) {slot : TxSlot} (hfly : q.inFlight = some slot) :
    QueueCore (queueEnd slot q) := by
  cases slot with
  | recal =>
    exact h.cleared (fun g => .inr ⟨rfl, by rw [hfly]; exact nofun⟩) (h.renewal_off (by rw [hfly]; exact nofun))
  | pulse => exact h.cleared (fun g => .inr ⟨rfl, by rw [hfly]; exact nofun⟩) rfl
  | group g => exact h.cleared_group hfly (slotAtEnd_followUp _ (h.followUps g))

/-! ### The events -/

theorem QueueInv.heard (h : QueueInv s) (f : Frame) (hnone : s.link.attempt = none) : QueueInv (deliver f none s) := by
  obtain ⟨hslot, -, hcore⟩ := queueInv_iff.mp h
  have hfly : s.queue.inFlight = none := by rw [hslot, hnone]; rfl
  have hheard := heardBy_move s f
  have hlink : (heardBy f s).link.attempt = none := by rw [heardBy_link]; exact hnone
  rw [deliver_none]
  generalize heardBy f s = u at hheard hlink ⊢
  have hcadence := cadenceHears_move (held := false) u f s.table.entries
  have hlink' : (cadenceHears f s.table.entries u).link.attempt = none := by rw [cadenceHears_link]; exact hlink
  generalize cadenceHears f s.table.entries u = v at hcadence hlink' ⊢
  have hmove := (hheard.trans hcadence).trans (evaluate_move v (entryChanged s.table.entries v.table.entries))
  exact queueInv_of_none (hcore.move hmove) (hmove.inFlight.trans hfly) (by simpa using hlink')

/-- The queue once the success of the slot in flight has been taken. -/
theorem attemptSucceeds_queue (slot : TxSlot) (f : Frame) (s : State) : ∃ timer,
    (attemptSucceeds slot f s).queue = { queueSuccess slot f s.queue with intervalTimer := timer } := by
  cases f <;> exact ⟨_, rfl⟩

theorem queueSuccess_inFlight (slot : TxSlot) (f : Frame) (q : TxQueue) : (queueSuccess slot f q).inFlight = none := by
  cases slot <;> rfl

theorem QueueInv.succeeded (h : QueueInv s) {a : Attempt} (hatt : s.link.attempt = some a) :
    QueueCore (succeededBy a.slot a.frame s).queue ∧ (succeededBy a.slot a.frame s).queue.inFlight = none
      ∧ (succeededBy a.slot a.frame s).link.attempt = none := by
  obtain ⟨hslot, -, hcore⟩ := queueInv_iff.mp h
  have hheard := heardBy_move s a.frame
  have hfly : (heardBy a.frame s).queue.inFlight = some a.slot := by rw [hheard.inFlight, hslot, hatt]; rfl
  unfold succeededBy
  generalize heardBy a.frame s = u at hheard hfly ⊢
  obtain ⟨timer, hqueue⟩ := attemptSucceeds_queue a.slot a.frame u
  have hdone := (hcore.move hheard).success hfly a.frame
  have hsucceeded : QueueCore (attemptSucceeds a.slot a.frame u).queue
      ∧ (attemptSucceeds a.slot a.frame u).queue.inFlight = none := by
    rw [hqueue]
    exact ⟨⟨hdone.followUps, hdone.renewal, hdone.withdrawn⟩, queueSuccess_inFlight _ _ _⟩
  have hlink : (attemptSucceeds a.slot a.frame u).link.attempt = none := by rw [attemptSucceeds_link]
  generalize attemptSucceeds a.slot a.frame u = v at hsucceeded hlink ⊢
  have hcadence := cadenceHears_move (held := false) v a.frame s.table.entries
  exact ⟨hsucceeded.1.move hcadence, hcadence.inFlight.trans hsucceeded.2, by rw [cadenceHears_link]; exact hlink⟩

theorem QueueInv.ownHeard (h : QueueInv s) {a : Attempt} (hatt : s.link.attempt = some a) :
    QueueInv (deliver a.frame (some a.slot) s) := by
  obtain ⟨hcore, hfly, hlink⟩ := h.succeeded hatt
  rw [deliver_own]
  generalize succeededBy a.slot a.frame s = u at hcore hfly hlink ⊢
  split
  · rw [enterStopped_eq]
    exact queueInv_of_empty rfl rfl
  · have hagain := confirmedAgain_move (held := false) u a.slot
    have hlink' : (confirmedAgain a.slot u).link.attempt = none := by simpa using hlink
    generalize confirmedAgain a.slot u = v at hagain hlink' ⊢
    have hevaluated := evaluate_move (held := false) v fun g =>
      entryChanged s.table.entries v.table.entries g || decide (slotGroup a.slot = some g)
    have hmove := hagain.trans hevaluated
    exact queueInv_of_none (hcore.move hmove) (hmove.inFlight.trans hfly) (by simpa using hlink')

/-- An attempt over without success, the link as the failure or the loss leaves it. -/
theorem QueueInv.attemptOver (h : QueueInv s) {a : Attempt} (hatt : s.link.attempt = some a)
    (hu : u.queue = queueEnd a.slot s.queue)
    (hnone : u.link.attempt = none) : QueueInv (attemptEndHandled a.slot u) := by
  obtain ⟨hslot, -, hcore⟩ := queueInv_iff.mp h
  have hfly : s.queue.inFlight = some a.slot := by rw [hslot, hatt]; rfl
  have hended : QueueCore u.queue := hu ▸ hcore.ended hfly
  have hmove := attemptEndHandled_move (held := false) u a.slot
  refine queueInv_of_none (hended.move hmove) ?_ (by simpa using hnone)
  rw [hmove.inFlight, hu, queueEnd_inFlight]

theorem QueueInv.attemptFailed (h : QueueInv s) {a : Attempt} (hatt : s.link.attempt = some a) :
    QueueInv (failAttempt a.slot s) := by
  by_cases hfew : s.link.consecutive + 1 < 16
  · rw [failAttempt_of_lt hfew]
    exact h.attemptOver hatt rfl rfl
  · rw [failAttempt_of_le (Nat.not_lt.mp hfew)]
    split
    · rw [enterStopped_eq]
      exact queueInv_of_empty rfl rfl
    · rw [enterMuted_eq]
      exact queueInv_of_empty rfl rfl

theorem QueueInv.arbitrationLost (h : QueueInv s) {a : Attempt} (bit : Nat) (hatt : s.link.attempt = some a) :
    QueueInv (loseArbitration a bit s) := by
  unfold loseArbitration
  exact h.attemptOver hatt rfl rfl

/-- The choice of a slot other than the RECAL's, where no RECAL is queued (06, R106). -/
theorem chooseSlot_cases {slot : TxSlot} (h : chooseSlot q = some slot) :
    (slot = .recal ∧ q.recal = true) ∨ (∃ g, slot = .group g) ∨ slot = .pulse ∧ q.pulse = true := by
  unfold chooseSlot at h
  split at h
  next hrecal => exact .inl ⟨(Option.some.inj h).symm, hrecal⟩
  next =>
    split at h
    next g _ => exact .inr (.inl ⟨g, (Option.some.inj h).symm⟩)
    next =>
      split at h
      next g _ => exact .inr (.inl ⟨g, (Option.some.inj h).symm⟩)
      next =>
        split at h
        next g _ => exact .inr (.inl ⟨g, (Option.some.inj h).symm⟩)
        next =>
          split at h
          next hpulse => exact .inr (.inr ⟨(Option.some.inj h).symm, hpulse⟩)
          next => cases h

/-- The slot chosen at an attempt start holds a frame (06, R106). -/
theorem slotHeld_of_chosen {slot : TxSlot} {f : Frame} (hslot : chooseSlot s.queue = some slot)
    (hf : contentOf s slot = some f) : slotHeld s.queue slot = true := by
  obtain ⟨rfl, hrecal⟩ | ⟨g, rfl⟩ | ⟨rfl, hpulse⟩ := chooseSlot_cases hslot
  · exact hrecal
  · show s.queue.groups[g].frame.isSome = true
    have hmap : (s.queue.groups[g].frame).map (groupContent s g) = some f := hf
    cases hframe : s.queue.groups[g].frame with
    | none => rw [hframe] at hmap; cases hmap
    | some frame => rfl
  · exact hpulse

theorem QueueInv.started (h : QueueInv s) {slot : TxSlot} {f : Frame} (hnone : s.link.attempt = none)
    (hslot : chooseSlot s.queue = some slot) (hf : contentOf s slot = some f) : QueueInv (startOn slot f s) := by
  obtain ⟨hsame, -, hcore⟩ := queueInv_iff.mp h
  have hfly : s.queue.inFlight = none := by rw [hsame, hnone]; rfl
  refine queueInv_iff.mpr ⟨rfl, fun slot' h' => ?_, fun g => slotOk_of_none ?_, fun hr => ?_, nofun⟩
  · cases h'
    exact slotHeld_of_chosen hslot hf
  · exact hcore.followUp_none (by rw [hfly]; exact nofun)
  · have hoff := hcore.renewal_off (by rw [hfly]; exact nofun)
    have hr' : s.queue.renewal = true := hr
    rw [hoff] at hr'
    cases hr'

theorem leavesSeeding_queue (u : State) : (leavesSeeding u).queue = u.queue
    ∧ (leavesSeeding u).link.attempt = u.link.attempt := by
  unfold leavesSeeding
  split <;> exact ⟨rfl, rfl⟩

theorem QueueInv.converted (h : QueueInv s) (slot : Slot) (n : Nat) :
    QueueInv (scanProceeds slot (seedingReport (slotConversion slot n s))) := by
  obtain ⟨hqueue, hatt⟩ := leavesSeeding_queue (slotConversion slot n s)
  have hlink : (slotConversion slot n s).link = s.link := by simp
  rw [scanProceeds_eq, seedingReport_eq]
  refine h.kept ?_ ?_
  · show QueueMove true s.queue (leavesSeeding (slotConversion slot n s)).queue
    rw [hqueue]
    exact slotConversion_move s slot n
  · show (leavesSeeding (slotConversion slot n s)).link.attempt = _
    rw [hatt, hlink]

theorem queueInv_enterSeeding (s : State) : QueueInv (enterSeeding s) := by
  obtain ⟨hqueue, hatt⟩ := leavesSeeding_queue (seedingEntered s)
  rw [enterSeeding_eq]
  exact queueInv_of_empty (by rw [hqueue]; rfl) (by rw [hatt]; rfl)

/-- An event that leaves the queue but for the interval timer, and the attempt. -/
theorem QueueInv.of_timer (h : QueueInv s) {timer : Option Nat}
    (hqueue : t.queue = { s.queue with intervalTimer := timer })
    (hatt : t.link.attempt = s.link.attempt) : QueueInv t := by
  refine h.kept ?_ hatt
  rw [hqueue]
  exact ⟨rfl, fun _ => .refl _ _ _, fun _ h => h, fun _ h => h, .inl, .inl⟩

/-- A bit read keeps the attempt's slot. -/
theorem linkReads_slot (bit : Bool) (l : Link) :
    (linkReads bit l).attempt.map Attempt.slot = l.attempt.map Attempt.slot := by
  cases hatt : l.attempt with
  | none => simp only [linkReads, hatt]
  | some a =>
    obtain ⟨b, hb, -, hslot, -⟩ := attemptReads_attempt bit a l hatt
    simp only [linkReads, hatt, hb, Option.map_some, hslot]

theorem QueueInv.bitRead (h : QueueInv s) (bit : Bool) : QueueInv { s with link := linkReads bit s.link } := by
  obtain ⟨hslot, hheld, hcore⟩ := queueInv_iff.mp h
  exact queueInv_iff.mpr ⟨hslot.trans (linkReads_slot bit s.link).symm, hheld, hcore⟩

theorem abandonExpires_move (s : State) (g : Group) : QueueMove held s.queue (abandonExpires g s).queue := by
  unfold abandonExpires
  split
  next h _ _ _ =>
    have hlost := holderLoses_move (held := held) s g h
    generalize holderLoses g h s = u at hlost ⊢
    exact hlost.trans (handOnChanges_move
      { u.setEntry g .free with table := { (u.setEntry g .free).table with
          abandoned := satInc (u.setEntry g .free).table.abandoned } } s.table.entries)
  next => exact .refl _ _

theorem abandonExpires_link (g : Group) (s : State) : (abandonExpires g s).link = s.link := by
  unfold abandonExpires
  split
  · simp
  · rfl

theorem peerExpires_move (s : State) (p : Station) : QueueMove held s.queue (peerExpires p s).queue := by
  unfold peerExpires
  split
  · exact handOnChanges_move (freePeer p .peerLost ((s.setRoster p absentEntry).put (.peerLost p))) s.table.entries
  · exact .refl _ _

theorem peerExpires_link (p : Station) (s : State) : (peerExpires p s).link = s.link := by
  unfold peerExpires
  split
  · simp
  · rfl

theorem QueueInv.change (h : QueueInv s) (hc : Change s t) : QueueInv t := by
  cases hc with
  | nothing | taken | setupRefused | discarded | turnedIdle | cleared => exact h
  | converted slot n => exact h.converted slot n
  | waited => exact h.kept (.of_eq (by simp)) (by simp)
  | ownHeard a _ _ hatt => exact h.ownHeard hatt
  | peerHeard f _ _ hnone => exact h.heard f hnone
  | twinHeard => rw [enterStopped_eq]; exact queueInv_of_empty rfl rfl
  | startBit => exact h.bitRead false
  | attemptStarted slot f honline hline hnone hslot hf => exact h.started hnone hslot hf
  | attemptFailed a hatt => exact h.attemptFailed hatt
  | arbitrationLost a bit hatt => exact h.arbitrationLost bit hatt
  | contestEnded g holder st abandon =>
    exact h.kept (requestConfirm_move (s.setEntry g (.contested holder st abandon none)) g holder.channel) (by simp)
  | abandonEnded g => exact h.kept (abandonExpires_move s g) (by rw [abandonExpires_link])
  | guardEnded g => exact h.kept (handOnChanges_move (s.setEntry g .free) _) (by simp)
  | holdEnded c => exact h.kept (leaveClaimSide_move s .stuck c) (by simp)
  | intervalEnded =>
    have hstopped : QueueInv { s with queue := { s.queue with intervalTimer := none } } := h.of_timer rfl rfl
    exact hstopped.kept (requestPulse_move _ true) (by simp)
  | peerLost p => exact h.kept (peerExpires_move s p) (by rw [peerExpires_link])
  | quietEnded => exact h.kept (changeCadence_move { s with cad := { s.cad with quiet := .stopped } } .slack) (by simp)
  | joined => exact queueInv_enterSeeding _
  | rejoined => exact queueInv_enterSeeding _
  | restarted => rw [restartStation_eq]; exact queueInv_enterSeeding _
  | listenEnded =>
    rw [enterOnline_eq]
    have hstopped : QueueInv { s with queue := { s.queue with intervalTimer := none } } := h.of_timer rfl rfl
    have hentered : QueueInv (onlineEntered s) :=
      hstopped.kept (pulseRequest_move false { s.queue with intervalTimer := none }) rfl
    exact hentered.kept (evaluate_move (onlineEntered s) _) (by simp)
  | muteEnded =>
    rw [enterListen_eq]
    refine h.kept (.refl _ _) ?_
    dsimp only
    split <;> rfl
  | reseeded c =>
    have hasked : QueueInv ((leaveClaimSide .reseed c s).setChan c (reseededChan s.chans[c])) :=
      h.kept (leaveClaimSide_move s .reseed c) (by simp)
    unfold reseedChannel
    dsimp only
    generalize (leaveClaimSide .reseed c s).setChan c (reseededChan s.chans[c]) = u at hasked ⊢
    exact hasked.kept (evaluate_move u _) (by simp)
  | recalQueued => exact h.kept ⟨rfl, fun _ => .refl _ _ _, fun _ _ => rfl, fun _ h => h, .inl, .inl⟩ rfl
  | leaveAsked =>
    exact h.kept (requestPulse_move { s with ctrl := { s.ctrl with leavePending := true } } false) (by simp)
  | left => rw [enterStopped_eq]; exact queueInv_of_empty rfl rfl

theorem QueueInv.stepWay (h : QueueInv s) (hway : StepWay s t) : QueueInv t := by
  cases hway with
  | idled =>
    unfold idle
    split
    · exact h
    · have helapsed : QueueInv (elapse (min bitTimeUs (msUs - s.sinceTick)) s) := h.of_timer rfl rfl
      exact helapsed.bitRead (s.wire.head?.getD true)
  | ticked => exact h.of_timer rfl rfl
  | reset straps => exact queueInv_reset straps
  | held => exact queueInv_reset s.ctrl.straps
  | setupWritten => exact h
  | changed hc port =>
    have hchanged := QueueInv.change h hc
    exact hchanged

end

/-- Settles O55: every operation keeps the slot in flight and what stands behind it; the end of an attempt clears them
together. -/
theorem everyStepKeepsTheQueueCoherent : Obligations.EveryStepKeepsTheQueueCoherent := by
  intro s t h hstep
  obtain ⟨rest, hway⟩ := step_way hstep
  exact QueueInv.stepWay (s := { s with pending := rest }) h hway

end Sys2Proof.Machine
end

section
/-! PROOF. What each operation keeps of the claim table and of the roster (03, R43 to R48, R52, R54, R57 to R63; 07,
R119 to R126). -/

namespace Sys2Proof.Machine

/-- An entry in its ranges, held by this station or by a peer that is PRESENT. -/
def EntryOk (own : Station) (roster : Vector RosterEntry 16) (e : Entry) : Prop :=
  entryInRange own e = true ∧ ∀ h, entryHolder e = some h → h.station = own ∨ roster[h.station].present = true

/-- A roster as the station keeps it, the own entry PRESENT where `on`. -/
structure RosterOk (own : Station) (on : Prop) (roster : Vector RosterEntry 16) : Prop where
  own_present : roster[own].present = true ↔ on
  own_timer : roster[own].lastHeard = none
  timers : ∀ p : Station, p ≠ own → roster[p].lastHeard.isSome = roster[p].present
  announced : ∀ p : Station, roster[p].announced.isSome = true → roster[p].present = true

/-- What an operation other than a frame makes of an entry: in its ranges still, with no new holder, and FREE where it
was. -/
structure EntryKept (own : Station) (e e' : Entry) : Prop where
  inRange : entryInRange own e = true → entryInRange own e' = true
  holder : ∀ h, entryHolder e' = some h → entryHolder e = some h
  free : e = .free → e' = .free

/-- Every entry of the table kept so. -/
def TableKept (s t : State) : Prop := ∀ g : Group, EntryKept s.number s.table.entries[g] t.table.entries[g]

section
variable {s t u : State} {own : Station} {e e' e'' : Entry} {roster roster' : Vector RosterEntry 16} {on : Prop}
  {p : Station}

theorem panelInv_iff : PanelInv s ↔ RosterOk s.number (s.ctrl.state = .online) s.roster
    ∧ (∀ g : Group, EntryOk s.number s.roster s.table.entries[g])
    ∧ (receiving s.ctrl.state = false →
        (∀ p : Station, s.roster[p] = absentEntry) ∧ ∀ g : Group, s.table.entries[g] = .free) := by
  have hheld (e : Entry) : ((entryHolder e).all fun h => decide (h.station = s.number) || s.roster[h.station].present)
      = true ↔ ∀ h, entryHolder e = some h → h.station = s.number ∨ s.roster[h.station].present = true := by
    simp [Option.all_eq_true]
  constructor
  · rintro ⟨hown, htimer, htimers, hannounced, hstopped, hrange, hholder⟩
    exact ⟨⟨hown, htimer, htimers, hannounced⟩, fun g => ⟨hrange g, (hheld _).mp (hholder g)⟩, hstopped⟩
  · rintro ⟨⟨hown, htimer, htimers, hannounced⟩, hentries, hstopped⟩
    exact ⟨hown, htimer, htimers, hannounced, hstopped, fun g => (hentries g).1, fun g => (hheld _).mpr (hentries g).2⟩

/-! ### One entry -/

theorem EntryKept.refl (own : Station) (e : Entry) : EntryKept own e e := ⟨id, fun _ => id, id⟩

theorem EntryKept.trans (h : EntryKept own e e') (h' : EntryKept own e' e'') : EntryKept own e e'' :=
  ⟨fun hr => h'.inRange (h.inRange hr), fun holder hh => h.holder holder (h'.holder holder hh),
    fun hf => h'.free (h.free hf)⟩

theorem EntryKept.to_free (own : Station) (e : Entry) : EntryKept own e .free := ⟨fun _ => rfl, nofun, fun _ => rfl⟩

/-- The contest timer stops (03, R50, R51). -/
theorem EntryKept.contestStopped (own : Station) (h : Holder) (st abandon : Nat) (contest : Option Nat) :
    EntryKept own (.contested h st abandon contest) (.contested h st abandon none) where
  inRange hr := by
    simp only [entryInRange, Bool.and_eq_true] at hr ⊢
    exact ⟨hr.1, rfl⟩
  holder _ := id
  free := nofun

theorem entryRunDown_kept (own : Station) (us : Nat) (e : Entry) : EntryKept own e (entryRunDown us e) := by
  cases e with
  | free => exact .refl _ _
  | owned => exact .refl _ _
  | contested h st abandon contest =>
    refine ⟨fun hr => ?_, fun _ => id, nofun⟩
    simp only [entryInRange, entryRunDown, Bool.and_eq_true, decide_eq_true_eq] at hr ⊢
    obtain ⟨⟨⟨hlow, hhigh⟩, habandon⟩, hcontest⟩ := hr
    exact ⟨⟨⟨hlow, hhigh⟩, (Nat.sub_le ..).trans habandon⟩, by cases contest <;> exact hcontest⟩
  | guarded remaining =>
    refine ⟨fun hr => ?_, nofun, nofun⟩
    simp only [entryInRange, entryRunDown, decide_eq_true_eq] at hr ⊢
    exact (Nat.sub_le ..).trans hr

theorem freeHeldBy_kept (own : Station) (which : Holder → Bool) (e : Entry) : EntryKept own e (freeHeldBy which e) := by
  unfold freeHeldBy
  split
  · split
    · exact .to_free _ _
    · exact .refl _ _
  · split
    · exact .to_free _ _
    · exact .refl _ _
  · exact .refl _ _

/-- A freed entry is not held by who was freed. -/
theorem freeHeldBy_holder {which : Holder → Bool} {h : Holder} (hh : entryHolder (freeHeldBy which e) = some h) :
    which h = false := by
  unfold freeHeldBy at hh
  split at hh
  next h' _ _ _ =>
    split at hh
    · cases hh
    next hwhich =>
      cases hh
      exact Bool.not_eq_true _ ▸ hwhich
  next h' _ _ =>
    split at hh
    · cases hh
    next hwhich =>
      cases hh
      exact Bool.not_eq_true _ ▸ hwhich
  next hcontested howned =>
    exfalso
    cases e with
    | free | guarded => cases hh
    | contested => exact hcontested _ _ _ _ rfl
    | owned => exact howned _ _ _ rfl

theorem EntryOk.kept (h : EntryOk own roster e) (hk : EntryKept own e e') : EntryOk own roster e' :=
  ⟨hk.inRange h.1, fun holder hh => h.2 holder (hk.holder holder hh)⟩

theorem EntryOk.heldPresent (h : EntryOk own roster e) (hp : ∀ p : Station, p ≠ own → roster[p].present = true →
    roster'[p].present = true) : EntryOk own roster' e := by
  refine ⟨h.1, fun holder hh => ?_⟩
  by_cases hown : holder.station = own
  · exact .inl hown
  · obtain hl | hr := h.2 holder hh
    · exact .inl hl
    · exact .inr (hp _ hown hr)

theorem entryOk_free : EntryOk own roster .free := ⟨rfl, nofun⟩

/-! ### The roster (07) -/

theorem rosterOk_absent (h : ∀ p : Station, roster[p] = absentEntry) (hon : ¬ on) : RosterOk own on roster where
  own_present := by rw [h]; exact iff_of_false nofun hon
  own_timer := by rw [h]; rfl
  timers p _ := by rw [h]; rfl
  announced p ha := by rw [h] at ha; cases ha

/-- A peer's entry written (07, R120 to R124). -/
theorem RosterOk.setPeer (h : RosterOk own on roster) (hp : p ≠ own) {entry : RosterEntry}
    (htimer : entry.lastHeard.isSome = entry.present) (hann : entry.announced.isSome = true → entry.present = true) :
    RosterOk own on (roster.set p entry) where
  own_present := by rw [set_get_other _ hp]; exact h.own_present
  own_timer := by rw [set_get_other _ hp]; exact h.own_timer
  timers q hq := by
    rw [set_get]
    split
    · exact htimer
    · exact h.timers q hq
  announced q ha := by
    rw [set_get] at ha ⊢
    split at ha
    next hqp => rw [if_pos hqp]; exact hann ha
    next hqp => rw [if_neg hqp]; exact h.announced q ha

/-- The own entry written (07, R125). -/
theorem RosterOk.setOwn {on' : Prop} (h : RosterOk own on roster) {entry : RosterEntry}
    (htimer : entry.lastHeard = none)
    (hpresent : entry.present = true ↔ on') (hann : entry.announced.isSome = true → entry.present = true) :
    RosterOk own on' (roster.set own entry) where
  own_present := by rw [set_get, if_pos rfl]; exact hpresent
  own_timer := by rw [set_get, if_pos rfl]; exact htimer
  timers q hq := by
    rw [set_get, if_neg (Ne.symm hq)]
    exact h.timers q hq
  announced q ha := by
    rw [set_get] at ha ⊢
    split at ha
    next hqp => rw [if_pos hqp]; exact hann ha
    next hqp => rw [if_neg hqp]; exact h.announced q ha

/-! ### The table, but for frames -/

theorem TableKept.refl (s : State) : TableKept s s := fun _ => .refl _ _

theorem TableKept.of_eq (h : t.table.entries = s.table.entries) : TableKept s t := fun g => by rw [h]; exact .refl _ _

theorem TableKept.trans (h : TableKept s t) (hnumber : t.number = s.number) (h' : TableKept t u) : TableKept s u :=
  fun g => (h g).trans (hnumber ▸ h' g)

/-- One entry written. -/
theorem TableKept.setEntry {g : Group} (h : EntryKept s.number s.table.entries[g] e) :
    TableKept s (s.setEntry g e) := by
  intro d
  show EntryKept _ _ (s.table.entries.set g e)[d]
  rw [set_get]
  split
  next hd => subst hd; exact h
  next => exact .refl _ _

/-- An operation that keeps the roster, the station's state and its number. -/
theorem PanelInv.kept (h : PanelInv s) (hroster : t.roster = s.roster) (hctrl : t.ctrl = s.ctrl) (hk : TableKept s t) :
    PanelInv t := by
  have hnumber : t.number = s.number := by rw [State.number, State.number, hctrl]
  obtain ⟨hrosterOk, hentries, hstopped⟩ := panelInv_iff.mp h
  refine panelInv_iff.mpr ⟨?_, fun g => ?_, fun hrecv => ?_⟩
  · rw [hnumber, hctrl, hroster]
    exact hrosterOk
  · rw [hnumber, hroster]
    exact (hentries g).kept (hk g)
  · rw [hctrl] at hrecv
    obtain ⟨habsent, hfree⟩ := hstopped hrecv
    exact ⟨by rw [hroster]; exact habsent, fun g => (hk g).free (hfree g)⟩

/-- While the receiver runs, a coherent roster and coherent entries suffice. -/
theorem panelInv_of_receiving (hroster : RosterOk s.number (s.ctrl.state = .online) s.roster)
    (hentries : ∀ g : Group, EntryOk s.number s.roster s.table.entries[g]) (hrecv : receiving s.ctrl.state = true) :
    PanelInv s :=
  panelInv_iff.mpr ⟨hroster, hentries, fun h => by rw [hrecv] at h; cases h⟩

/-- Every entry ABSENT and every group FREE, outside ONLINE. -/
theorem panelInv_of_empty (hroster : ∀ p : Station, s.roster[p] = absentEntry)
    (hentries : ∀ g : Group, s.table.entries[g] = .free) (hoff : s.ctrl.state ≠ .online) : PanelInv s :=
  panelInv_iff.mpr ⟨rosterOk_absent hroster hoff, fun g => by rw [hentries]; exact entryOk_free,
    fun _ => ⟨hroster, hentries⟩⟩

theorem stopContest_kept (g : Group) (c : Channel) (s : State) : TableKept s (stopContest g c s) := by
  unfold stopContest
  split
  next h st abandon contest he =>
    split
    · refine TableKept.setEntry (s := s) ?_
      rw [he]
      exact .contestStopped ..
    · exact .refl s
  next => exact .refl s

theorem leaveClaimSide_kept (reason : Reason) (c : Channel) (s : State) : TableKept s (leaveClaimSide reason c s) := by
  unfold leaveClaimSide
  dsimp only
  split
  · split
    · exact .of_eq (by simp)
    · exact .refl s
  · exact (stopContest_kept s.chans[c].setup.group c s).trans (by simp [State.number]) (.of_eq (by simp))
  · exact .of_eq (by simp)
  · exact .refl s

theorem activity_table (isLocal : Bool) (s : State) : (activity isLocal s).table = s.table := by
  simp

theorem slotConversion_kept (slot : Slot) (n : Nat) (s : State) : TableKept s (slotConversion slot n s) := by
  have hkey (c : Channel) : TableKept s (keyCount c n s) := by
    have hcounted := keyCount_cases c n s
    generalize keyCount c n s = u at hcounted ⊢
    cases hcounted with
    | off => exact .refl s
    | faulted =>
      unfold faultedCount
      dsimp only
      split <;> exact .refl s
    | faults => exact leaveClaimSide_kept .fault c (s.put (.channelFault s.number c))
    | counts =>
      unfold carryOut
      split
      · exact .refl s
      · exact .of_eq (by rw [activity_table]; rfl)
      · exact .of_eq (by rw [activity_table]; rfl)
      · exact leaveClaimSide_kept .withdrawn c s
  unfold slotConversion
  split
  next c =>
    have hcount := hkey c
    have hnumber : (keyCount c n s).number = s.number := by simp [State.number]
    unfold keyConversion
    generalize keyCount c n s = u at hcount hnumber ⊢
    exact hcount.trans hnumber (.of_eq (by simp))
  next =>
    split
    next c href =>
      have hcounted := refConversion_cases c n s
      generalize refConversion c n s = u at hcounted ⊢
      cases hcounted with
      | off | seeds | other => exact .refl s
      | faulted =>
        unfold faultedCount
        dsimp only
        split <;> exact .refl s
      | faults => exact .of_eq (by rw [refFault_eq])
      | hushed =>
        rw [refHushedCount_eq]
        split_ifs <;> exact .refl s
      | quiet =>
        unfold refIdleCount
        split
        · exact .of_eq (by rw [hushOn_eq]; rfl)
        · exact .refl s
    next => exact .refl s

end

end Sys2Proof.Machine
end

section
/-! PROOF. The roster and the claim table stay coherent through every frame and every step (03, 07). -/

namespace Sys2Proof.Machine

/-- Every group's entry coherent with the roster. -/
def EntriesOk (s : State) : Prop := ∀ g : Group, EntryOk s.number s.roster s.table.entries[g]

section
variable {s t u : State} {f : Frame} {h : Holder} {g : Group} {n : Nat}

/-- The entries of a station whose roster and number are those of another. -/
theorem EntriesOk.of_eq (hok : EntriesOk s) (htable : t.table.entries = s.table.entries) (hroster : t.roster = s.roster)
    (hnumber : t.number = s.number) : EntriesOk t := fun g => by
  rw [htable, hroster, hnumber]
  exact hok g

theorem EntriesOk.set (hok : EntriesOk s) {e : Entry} (he : EntryOk s.number s.roster e) :
    EntriesOk (s.setEntry g e) := by
  intro d
  show EntryOk _ _ (s.table.entries.set g e)[d]
  rw [set_get]
  split
  · exact he
  · exact hok d

/-! ### Frames at the claim table (03, R46 to R48, R52, R54, R57 to R62) -/

/-- The station that holds is this one, or a peer that is PRESENT. -/
def Known (s : State) (p : Station) : Prop := p = s.number ∨ s.roster[p].present = true

theorem claimTakes_entriesOk (hok : EntriesOk s) (hknown : Known s h.station) (hn : 1 ≤ n ∧ n ≤ Config.maxStrength) :
    EntriesOk (claimTakes g h n s) := by
  have hentry (contest : Option Nat) (hlocal : contest.isSome = true → h.station = s.number) :
      EntryOk s.number s.roster (.contested h n abandonUs contest) := by
    refine ⟨?_, fun holder hh => ?_⟩
    · simp only [entryInRange, Bool.and_eq_true, Bool.or_eq_true, decide_eq_true_eq]
      refine ⟨⟨hn, le_refl _⟩, ?_⟩
      cases contest with
      | none => exact .inl rfl
      | some us => exact .inr (hlocal rfl)
    · cases hh
      exact hknown
  unfold claimTakes
  split
  next hclaim =>
    have hlocal : h.station = s.number := of_decide_eq_true ((Bool.and_eq_true ..).mp hclaim).1
    exact (hok.set (hentry _ fun _ => hlocal)).of_eq rfl rfl rfl
  next => exact hok.set (hentry none nofun)

theorem claimHeard_entriesOk (hok : EntriesOk s) (hknown : Known s h.station) (hn : 1 ≤ n ∧ n ≤ Config.maxStrength) :
    EntriesOk (claimHeard h g n s) := by
  unfold claimHeard
  split
  · exact claimTakes_entriesOk hok hknown hn
  · exact claimTakes_entriesOk hok hknown hn
  next old held _ _ _ =>
    split
    · exact hok.of_eq (by simp) (by simp) (by simp [State.number])
    · split
      · have hlost : EntriesOk (holderLoses g old s) := hok.of_eq (by simp) (by simp) (by simp [State.number])
        exact claimTakes_entriesOk hlost (by simpa [Known, State.number] using hknown) hn
      · exact hok.of_eq (by simp) (by simp) (by simp [State.number])
  · split
    · exact hok.of_eq (by simp) (by simp) (by simp [State.number])
    · exact hok.of_eq (by simp) (by simp) (by simp [State.number])

theorem confirmHeard_entriesOk (hok : EntriesOk s) (hknown : Known s h.station) : EntriesOk (confirmHeard h g s) := by
  unfold confirmHeard
  split
  next old held abandon contest he =>
    split
    next =>
      have hin := (hok g).1
      rw [he] at hin
      simp only [entryInRange, Bool.and_eq_true] at hin
      have howned : EntryOk s.number s.roster (.owned h held s.log.clock) :=
        ⟨hin.1.1.2, fun holder hh => by cases hh; exact hknown⟩
      exact (hok.set (g := g) howned).of_eq (by simp) (by simp) (by simp [State.number])
    next => exact hok.of_eq (by simp) (by simp) (by simp [State.number])
  next => exact hok.of_eq (by simp) (by simp) (by simp [State.number])

theorem releaseHeard_entriesOk (hok : EntriesOk s) (reason : Reason) : EntriesOk (releaseHeard h g reason s) := by
  have hguard : EntryOk s.number s.roster (.guarded guardUs) := ⟨decide_eq_true (le_refl guardUs), nofun⟩
  unfold releaseHeard
  split
  · split
    · exact hok.set hguard
    · exact hok.of_eq (by simp) (by simp) (by simp [State.number])
  · split
    · exact (hok.set (g := g) hguard).of_eq (by simp) (by simp) (by simp [State.number])
    · exact hok.of_eq (by simp) (by simp) (by simp [State.number])
  · exact hok.of_eq (by simp) (by simp) (by simp [State.number])

theorem resyncEntry_ok {own p : Station} {roster : Vector RosterEntry 16} {e : Entry} (pair : Option Channel)
    (clock : Word) (hok : EntryOk own roster e) (hknown : p = own ∨ roster[p].present = true) :
    EntryOk own roster (resyncEntry p pair clock e) := by
  have hadopted (c : Channel) : EntryOk own roster (.owned { station := p, channel := c } 0 clock) :=
    ⟨rfl, fun holder hh => by cases hh; exact hknown⟩
  unfold resyncEntry
  split
  · split
    · split
      · exact entryOk_free
      · exact hok
    · exact hok
  next c =>
    split
    · exact hadopted c
    · exact hadopted c
    next holder st abandon contest =>
      split
      next heq =>
        have hin := hok.1
        simp only [entryInRange, Bool.and_eq_true] at hin
        exact ⟨hin.1.1.2, fun holder' hh => hok.2 holder' hh⟩
      next =>
        split
        · exact hadopted c
        · exact hok
    next =>
      split
      · exact hok
      · split
        · exact hadopted c
        · exact hok

theorem resyncGroup_entriesOk (p : Station) (holdings : List (Group × Channel)) (hok : EntriesOk s) (hknown : Known s p)
    (g : Group) : EntriesOk (resyncGroup p holdings s g) := by
  have hentry := fun clock => resyncEntry_ok (listed holdings g) clock (hok g) hknown
  unfold resyncGroup
  dsimp only
  have hsame (u : State) (hu : EntriesOk u) (e : Entry) (events : List Event)
      (he : EntryOk u.number u.roster e) : EntriesOk ((u.setEntry g e).putAll events) := by
    exact (hu.set (g := g) he).of_eq (by simp) (by simp) (by simp [State.number])
  split
  next c =>
    refine hsame _ ?_ _ _ ?_
    · split
      · exact hok.of_eq rfl rfl rfl
      · exact hok.of_eq rfl rfl rfl
    · split
      · exact hentry _
      · exact hentry _
  next => exact hsame _ hok _ _ (hentry _)

theorem resync_entriesOk (p : Station) (holdings : List (Group × Channel)) (hok : EntriesOk s) (hknown : Known s p) :
    EntriesOk (resync p holdings s) := by
  unfold resync
  induction List.finRange 8 generalizing s with
  | nil => exact hok
  | cons g gs ih =>
    exact ih (resyncGroup_entriesOk p holdings hok hknown g) (by simpa [Known, State.number] using hknown)

/-- Any frame of this station's own or of a PRESENT peer, but for a leaving PULSE, which names no group. -/
theorem tableHears_entriesOk (hok : EntriesOk s) (hwf : f.WellFormed)
    (hknown : leavesNow f = false → Known s (senderOf f)) : EntriesOk (tableHears f s) := by
  cases f with
  | recal =>
    intro g
    show EntryOk _ _ (recalHeard s).table.entries[g]
    rw [recalHeard_table]
    dsimp only
    rw [getElem_replicate_free]
    exact entryOk_free
  | release p g c reason => exact releaseHeard_entriesOk hok reason
  | confirm p g c => exact confirmHeard_entriesOk hok (hknown rfl)
  | claim strength p g c => exact claimHeard_entriesOk hok (hknown rfl) hwf
  | pulse p fields =>
    show EntriesOk (if p = s.number ∨ fields.leaving = true then s else resync p fields.holdings s)
    split
    · exact hok
    next hnot =>
      have hstays : fields.leaving = false := by
        rw [← Bool.not_eq_true]
        exact fun hc => hnot (.inr hc)
      exact resync_entriesOk p fields.holdings hok (hknown hstays)

/-! ### Frames at the roster (07, R120 to R125) -/

/-- The roster and the entries coherent together, ONLINE or not. -/
def PanelOk (s : State) : Prop := RosterOk s.number (s.ctrl.state = .online) s.roster ∧ EntriesOk s

/-- The entries of a peer freed and its own roster entry ABSENT (03, R63; 07, R123, R124). -/
theorem PanelOk.peerGone (hok : PanelOk s) {p : Station} (hp : p ≠ s.number) (reason : UpReason) (e : Event) :
    PanelOk (freePeer p reason ((s.setRoster p absentEntry).put e)) := by
  obtain ⟨hroster, hentries⟩ := hok
  refine ⟨hroster.setPeer hp rfl nofun, fun g => ?_⟩
  show EntryOk s.number (s.roster.set p absentEntry)
    (each (fun _ e => freeHeldBy (fun h : Holder => decide (h.station = p)) e) s.table.entries)[g]
  rw [each_get]
  refine ⟨(freeHeldBy_kept _ _ _).inRange (hentries g).1, fun h hh => ?_⟩
  have hother : h.station ≠ p := of_decide_eq_false (freeHeldBy_holder hh)
  rw [set_get, if_neg (Ne.symm hother)]
  exact (hentries g).2 h ((freeHeldBy_kept s.number _ _).holder h hh)

theorem PanelOk.peerHeard (hok : PanelOk s) {p : Station} (hp : p ≠ s.number) (announced : Option Announced) :
    PanelOk (peerHeard p announced s) ∧ (Machine.peerHeard p announced s).roster[p].present = true := by
  obtain ⟨hroster, hentries⟩ := hok
  rw [peerHeard_eq]
  refine ⟨⟨hroster.setPeer hp rfl fun _ => rfl, fun g => ?_⟩, ?_⟩
  · refine (hentries g).heldPresent fun q hq hpresent => ?_
    dsimp only
    rw [set_get]
    split
    · rfl
    · exact hpresent
  · dsimp only
    rw [set_get, if_pos rfl]
    rfl

theorem ownPulseHeard_ctrl (fields : PulseFields) (s : State) : (ownPulseHeard fields s).ctrl = s.ctrl := by
  simp

/-- The own entry takes the fields of an own PULSE while it is PRESENT, in ONLINE (07, R125). -/
theorem PanelOk.ownPulse (hok : PanelOk s) (fields : PulseFields) : PanelOk (ownPulseHeard fields s) := by
  unfold ownPulseHeard
  split
  next honline =>
    obtain ⟨hroster, hentries⟩ := hok
    have hpresent := hroster.own_present.mpr ((online_iff s).mp honline)
    refine ⟨hroster.setOwn hroster.own_timer hroster.own_present fun _ => hpresent, fun g => ?_⟩
    refine (hentries g).heldPresent fun p hp hp' => ?_
    show (s.roster.set s.number _)[p].present = true
    rw [set_get, if_neg (Ne.symm hp)]
    exact hp'
  next => exact hok

theorem rosterHears_panelOk (hok : PanelOk s) (f : Frame) : PanelOk (rosterHears f s)
    ∧ (leavesNow f = false → Known (rosterHears f s) (senderOf f)) := by
  unfold rosterHears
  split
  next hown =>
    split
    next p fields =>
      refine ⟨?_, fun _ => .inl ?_⟩
      · exact hok.ownPulse fields
      · rw [State.number, ownPulseHeard_ctrl]
        exact hown
    next => exact ⟨hok, fun _ => .inl hown⟩
  next hpeer =>
    split
    next p fields =>
      split
      next hleaves =>
        refine ⟨?_, fun hstays => ?_⟩
        · unfold peerLeaves
          split
          · exact hok.peerGone hpeer .left _
          · exact hok
        · rw [show leavesNow (.pulse p fields) = fields.leaving from rfl, hleaves] at hstays
          cases hstays
      next =>
        obtain ⟨hheard, hpresent⟩ := hok.peerHeard hpeer (some (announcedOf fields))
        exact ⟨hheard, fun _ => .inr hpresent⟩
    next =>
      obtain ⟨hheard, hpresent⟩ := hok.peerHeard hpeer s.roster[senderOf f].announced
      exact ⟨hheard, fun _ => .inr hpresent⟩

theorem heardBy_panelOk (hok : PanelOk s) (hwf : f.WellFormed) : PanelOk (heardBy f s) := by
  obtain ⟨⟨hroster, hentries⟩, hknown⟩ := rosterHears_panelOk (s := afterFrame s) hok f
  have hnumber : (heardBy f s).number = (rosterHears f (afterFrame s)).number := by simp [heardBy, State.number]
  refine ⟨?_, tableHears_entriesOk hentries hwf hknown⟩
  unfold heardBy at hnumber ⊢
  rw [hnumber]
  simpa using hroster

/-! ### The events -/

theorem PanelInv.ok (h : PanelInv s) : PanelOk s := by
  obtain ⟨hroster, hentries, -⟩ := panelInv_iff.mp h
  exact ⟨hroster, hentries⟩

theorem PanelOk.of_eq (hok : PanelOk s) (htable : t.table.entries = s.table.entries) (hroster : t.roster = s.roster)
    (hctrl : t.ctrl = s.ctrl) : PanelOk t := by
  have hnumber : t.number = s.number := by rw [State.number, State.number, hctrl]
  refine ⟨?_, hok.2.of_eq htable hroster hnumber⟩
  rw [hnumber, hctrl, hroster]
  exact hok.1

theorem PanelOk.inv (hok : PanelOk s) (hrecv : receiving s.ctrl.state = true) : PanelInv s :=
  panelInv_of_receiving hok.1 hok.2 hrecv

theorem PanelInv.heard (h : PanelInv s) (hwf : f.WellFormed) (hrecv : receiving s.ctrl.state = true) :
    PanelInv (deliver f none s) := by
  have hok : PanelOk (deliver f none s) := (heardBy_panelOk h.ok hwf).of_eq (by simp [deliver_none])
    (by simp [deliver_none]) (by simp [deliver_none])
  exact hok.inv (by simpa [deliver_none, heardBy_ctrl] using hrecv)

theorem panelInv_enterStopped {st : StationState} (hst : st ≠ .online) (s : State) : PanelInv (enterStopped st s) := by
  rw [enterStopped_eq]
  exact panelInv_of_empty getElem_replicate_absent getElem_replicate_free hst

theorem PanelInv.ownHeard (h : PanelInv s) {a : Attempt} (hwf : a.frame.WellFormed)
    (hrecv : receiving s.ctrl.state = true) : PanelInv (deliver a.frame (some a.slot) s) := by
  have hheard := heardBy_panelOk h.ok hwf
  have hsucceeded : PanelOk (succeededBy a.slot a.frame s) :=
    hheard.of_eq (by simp [succeededBy]) (by simp [succeededBy]) (by simp [succeededBy])
  have hctrl : (succeededBy a.slot a.frame s).ctrl = s.ctrl := by simp [succeededBy, heardBy_ctrl]
  rw [deliver_own]
  generalize succeededBy a.slot a.frame s = u at hsucceeded hctrl ⊢
  split
  · exact panelInv_enterStopped (st := .offline) nofun u
  · have hok : PanelOk (evaluate (fun g => entryChanged s.table.entries (confirmedAgain a.slot u).table.entries g
        || decide (slotGroup a.slot = some g)) (confirmedAgain a.slot u)) :=
      hsucceeded.of_eq (by simp) (by simp) (by simp)
    exact hok.inv (by simpa [hctrl] using hrecv)

theorem panelInv_enterMuted (h : PanelInv s) : PanelInv (enterMuted s) := by
  obtain ⟨hroster, -⟩ := h.ok
  rw [enterMuted_eq]
  refine panelInv_of_receiving ?_ (fun g => ?_) rfl
  · exact hroster.setOwn rfl (iff_of_false nofun nofun) nofun
  · dsimp only
    rw [getElem_replicate_free]
    exact entryOk_free

theorem PanelInv.muteEnded (h : PanelInv s) (hoff : s.ctrl.state ≠ .online) : PanelInv (enterListen s) := by
  obtain ⟨hroster, hentries⟩ := h.ok
  rw [enterListen_eq]
  exact panelInv_of_receiving { hroster with
    own_present := hroster.own_present.trans (iff_of_false hoff nofun) } hentries rfl

theorem PanelInv.leavesSeeding (h : PanelInv s) : PanelInv (leavesSeeding s) := by
  obtain ⟨hroster, hentries⟩ := h.ok
  unfold Machine.leavesSeeding
  split
  next hdone =>
    exact panelInv_of_receiving { hroster with
      own_present := hroster.own_present.trans (iff_of_false (by rw [hdone.1]; exact nofun) nofun) } hentries rfl
  next => exact h

theorem PanelInv.listenEnded (h : PanelInv s) : PanelInv (enterOnline s) := by
  obtain ⟨hroster, hentries⟩ := h.ok
  have hentered : PanelInv (onlineEntered s) := by
    refine panelInv_of_receiving (hroster.setOwn rfl (iff_of_true rfl rfl) nofun) (fun g => ?_) rfl
    refine (hentries g).heldPresent fun p hp hpresent => ?_
    show (s.roster.set s.number _)[p].present = true
    rw [set_get, if_neg (Ne.symm hp)]
    exact hpresent
  rw [enterOnline_eq]
  exact hentered.kept (by simp) (by simp) (.of_eq (by simp))

theorem panelInv_enterSeeding (s : State) : PanelInv (enterSeeding s) := by
  rw [enterSeeding_eq]
  have hentered : PanelInv (seedingEntered s) :=
    panelInv_of_empty getElem_replicate_absent getElem_replicate_free nofun
  exact hentered.leavesSeeding

theorem PanelInv.converted (h : PanelInv s) (slot : Slot) (n : Nat) :
    PanelInv (scanProceeds slot (seedingReport (slotConversion slot n s))) := by
  have hconverted : PanelInv (slotConversion slot n s) := h.kept (by simp) (by simp) (slotConversion_kept slot n s)
  rw [scanProceeds_eq, seedingReport_eq]
  exact hconverted.leavesSeeding

theorem PanelInv.failed (h : PanelInv s) (slot : TxSlot) : PanelInv (failAttempt slot s) := by
  have hover : PanelInv (attemptOver slot (failLink s.link) s) := h.kept rfl rfl (.refl s)
  by_cases hfew : s.link.consecutive + 1 < 16
  · rw [failAttempt_of_lt hfew]
    exact hover.kept (by simp) (by simp) (.of_eq (by simp))
  · rw [failAttempt_of_le (Nat.not_lt.mp hfew)]
    split
    · exact panelInv_enterStopped (st := .offline) nofun _
    · exact panelInv_enterMuted hover

theorem PanelInv.peerLost (h : PanelInv s) {p : Station} (hpresent : s.roster[p].present = true)
    (hheard : s.roster[p].lastHeard = some 0) : PanelInv (peerExpires p s) := by
  obtain ⟨hroster, hentries, hstopped⟩ := panelInv_iff.mp h
  have hpeer : p ≠ s.number := by
    rintro rfl
    rw [hroster.own_timer] at hheard
    cases hheard
  have hrecv : receiving s.ctrl.state = true := by
    by_contra hc
    rw [(hstopped (Bool.not_eq_true _ ▸ hc)).1 p] at hpresent
    cases hpresent
  rw [peerExpires, if_pos ⟨hpresent, hheard⟩]
  have hgone : PanelInv (freePeer p .peerLost ((s.setRoster p absentEntry).put (.peerLost p))) :=
    (h.ok.peerGone hpeer .peerLost _).inv hrecv
  exact hgone.kept (by simp) (by simp) (.of_eq (by simp))

theorem PanelInv.abandonEnded (h : PanelInv s) (g : Group) : PanelInv (abandonExpires g s) := by
  unfold abandonExpires
  split
  next holder _ _ _ =>
    have hlost : PanelInv (holderLoses g holder s) := h.kept (by simp) (by simp) (.of_eq (by simp))
    generalize holderLoses g holder s = u at hlost ⊢
    have hfreed : TableKept u (u.setEntry g .free) := .setEntry (.to_free _ _)
    exact hlost.kept (by simp) (by simp) (hfreed.trans rfl (.of_eq (by simp)))
  next => exact h

/-- Time runs the peers' timers down. -/
theorem RosterOk.runDown {own : Station} {on : Prop} {roster roster' : Vector RosterEntry 16} {us : Nat}
    (hroster : RosterOk own on roster)
    (hget : ∀ p : Station, roster'[p] = { roster[p] with lastHeard := Machine.runDown us roster[p].lastHeard }) :
    RosterOk own on roster' where
  own_present := by rw [hget]; exact hroster.own_present
  own_timer := by
    rw [hget]
    dsimp only
    rw [hroster.own_timer]
    rfl
  timers p hp := by
    rw [hget]
    exact (runDown_isSome us _).trans (hroster.timers p hp)
  announced p ha := by
    rw [hget] at ha ⊢
    exact hroster.announced p ha

/-- Time runs the entries' and the peers' timers down (log 3). -/
theorem PanelInv.elapse (h : PanelInv s) (us : Nat) : PanelInv (elapse us s) := by
  obtain ⟨hroster, hentries, hstopped⟩ := panelInv_iff.mp h
  have hroster' : (Machine.elapse us s).roster
      = each (fun _ e => { e with lastHeard := runDown us e.lastHeard }) s.roster := rfl
  have hget (p : Station) : (Machine.elapse us s).roster[p]
      = { s.roster[p] with lastHeard := runDown us s.roster[p].lastHeard } := by rw [hroster', each_get]
  have htable' : (Machine.elapse us s).table.entries = each (fun _ e => entryRunDown us e) s.table.entries := rfl
  have hentry (g : Group) : (Machine.elapse us s).table.entries[g] = entryRunDown us s.table.entries[g] := by
    rw [htable', each_get]
  have hctrl : (Machine.elapse us s).ctrl.state = s.ctrl.state := rfl
  have hnumber : (Machine.elapse us s).number = s.number := rfl
  clear hroster' htable'
  generalize Machine.elapse us s = t at hget hentry hctrl hnumber ⊢
  refine panelInv_iff.mpr ⟨?_, fun g => ?_, fun hrecv => ?_⟩
  · rw [hnumber, hctrl]
    exact hroster.runDown hget
  · rw [hentry, hnumber]
    refine ((hentries g).heldPresent fun p _ hpresent => ?_).kept (entryRunDown_kept _ us _)
    rw [hget]
    exact hpresent
  · rw [hctrl] at hrecv
    obtain ⟨habsent, hfree⟩ := hstopped hrecv
    refine ⟨fun p => ?_, fun g => ?_⟩
    · rw [hget, habsent]
      rfl
    · rw [hentry, hfree]
      rfl

theorem PanelInv.arbitrationLost (h : PanelInv s) (a : Attempt) (bit : Nat) : PanelInv (loseArbitration a bit s) := by
  have hroster : (loseArbitration a bit s).roster = s.roster := by simp [loseArbitration]
  have hctrl : (loseArbitration a bit s).ctrl = s.ctrl := by simp [loseArbitration]
  have htable : (loseArbitration a bit s).table = s.table := by simp [loseArbitration]
  exact h.kept hroster hctrl (.of_eq (by rw [htable]))

theorem PanelInv.change (h : PanelInv s) (hc : Change s t) : PanelInv t := by
  cases hc with
  | nothing | taken | setupRefused | discarded | turnedIdle | startBit | attemptStarted
    | recalQueued | cleared => exact h
  | converted slot n => exact h.converted slot n
  | waited => exact h.kept (by simp) (by simp) (.of_eq (by simp))
  | ownHeard a hwf hrecv => exact h.ownHeard hwf hrecv
  | peerHeard f hwf hrecv => exact h.heard hwf hrecv
  | twinHeard => exact panelInv_enterStopped (st := .halted) nofun s
  | attemptFailed a => exact h.failed a.slot
  | arbitrationLost a bit => exact h.arbitrationLost a bit
  | contestEnded g holder st abandon he =>
    have hstopped : TableKept s (s.setEntry g (.contested holder st abandon none)) :=
      .setEntry (by rw [he]; exact .contestStopped ..)
    exact h.kept (by simp) (by simp) (hstopped.trans rfl (.of_eq (by simp)))
  | abandonEnded g => exact h.abandonEnded g
  | guardEnded g =>
    have hfreed : TableKept s (s.setEntry g .free) := .setEntry (.to_free _ _)
    exact h.kept (by simp) (by simp) (hfreed.trans rfl (.of_eq (by simp)))
  | holdEnded c =>
    exact h.kept (by simp) (by simp) ((leaveClaimSide_kept .stuck c s).trans (by simp [State.number]) (.of_eq rfl))
  | intervalEnded => exact h.kept (by simp) (by simp) (.of_eq (by simp))
  | peerLost p hpresent hheard => exact h.peerLost hpresent hheard
  | quietEnded => exact h.kept (by simp) (by simp) (.of_eq (by simp))
  | joined => exact panelInv_enterSeeding _
  | rejoined => exact panelInv_enterSeeding _
  | restarted => rw [restartStation_eq]; exact panelInv_enterSeeding _
  | listenEnded => exact h.listenEnded
  | muteEnded hstate => exact h.muteEnded (by rw [hstate]; exact nofun)
  | reseeded c =>
    refine h.kept (by simp [reseedChannel]) (by simp [reseedChannel]) ?_
    exact (leaveClaimSide_kept .reseed c s).trans (by simp [State.number]) (.of_eq (by simp [reseedChannel]))
  | leaveAsked =>
    have hasked : PanelInv { s with ctrl := { s.ctrl with leavePending := true } } := h
    exact hasked.kept (by simp) (by simp) (.of_eq (by simp))
  | left => exact panelInv_enterStopped (st := .offline) nofun s

theorem PanelInv.stepWay (h : PanelInv s) (hway : StepWay s t) : PanelInv t := by
  cases hway with
  | idled =>
    unfold idle
    split
    · exact h
    · exact h.elapse (min bitTimeUs (msUs - s.sinceTick))
  | ticked => exact h.elapse (msUs - s.sinceTick)
  | reset straps => exact panelInv_reset straps
  | held => exact panelInv_reset s.ctrl.straps
  | setupWritten => exact h
  | changed hc port =>
    have hchanged := PanelInv.change h hc
    exact hchanged

end

/-- Settles O56: a frame's sender is PRESENT before the table takes the frame, and whoever leaves the roster leaves the
table with it. -/
theorem everyStepKeepsThePanelViewCoherent : Obligations.EveryStepKeepsThePanelViewCoherent := by
  intro s t _ _ h hstep
  obtain ⟨rest, hway⟩ := step_way hstep
  exact PanelInv.stepWay (s := { s with pending := rest }) h hway

end Sys2Proof.Machine
end

section
/-! PROOF. The steps of a frame delivered, each an equation for the whole state: the roster, the claim table, the
attempt that it ends, and cadence control (03, R46 to R48, R52, R54; 05, R91, R97; 07, R120, R128 to R130). -/

namespace Sys2Proof.Machine

section
variable {s u : State} {f : Frame} {g : Group} {h : Holder} {p : Station} {n : Nat}

/-! ### Cadence control (07) -/

/-- Cadence control at any frame but a RECAL, that left the claim table of `s` as `u` has it. -/
theorem cadenceHears_eq (hrecal : isRecal f = false) (hcad : u.cad = s.cad) (hctrl : u.ctrl = s.ctrl)
    (htracker : u.tracker = s.tracker) : cadenceHears f s.table.entries u = { u with
      cad := cadenceAfter (isActivity s.number f) s u.table.entries
      queue := if isActivity s.number f then queueAtWake s u.queue else u.queue
      log := (if isActivity s.number f then wakeEvents s else []).foldl logPut u.log } := by
  have hquiet : quietWith u u.table.entries = quietWith s u.table.entries := by simp [quietWith, htracker]
  have hwake (q : TxQueue) : queueAtWake u q = queueAtWake s q := by simp [queueAtWake, hcad, hctrl]
  have hevents : wakeEvents u = wakeEvents s := by simp [wakeEvents, State.number, hcad, hctrl]
  have hnumber : u.number = s.number := by simp [State.number, hctrl]
  cases hs : isActivity s.number f with
  | false =>
    by_cases hd : TableDiffers s.table.entries u.table.entries
    · simp [cadenceHears, hrecal, hnumber, hs, anyChanged_iff, hd, reportTable_eq, cadenceAfter, hcad, hquiet]
    · simp [cadenceHears, hrecal, hnumber, hs, anyChanged_iff, hd, cadenceAfter, ← hcad]
  | true =>
    have hactive : cadenceHears f s.table.entries u = activity false u := by
      by_cases hd : anyChanged s.table.entries u.table.entries = true <;>
        simp [cadenceHears, hrecal, hnumber, hs, hd, activity_false_reportTable]
    rw [hactive, activity_false_eq, hwake, hevents, hquiet]
    simp [cadenceAfter, hcad]

/-! ### The roster (07, R120, R122) -/

/-- The station once the roster has taken a peer's frame other than a PULSE. -/
def peerAgain (p : Station) (s : State) : State :=
  { s with
    link := { s.link with line := .seeking 7 }
    roster := s.roster.set p (heardAgain s.roster[p])
    log := (joinedEvents s p).foldl logPut s.log }

/-- The frame is a PULSE. -/
def isPulse : Frame → Bool
  | .pulse _ _ => true
  | _ => false

theorem rosterHears_peer (hp : senderOf f ≠ s.number) (hpulse : isPulse f = false) :
    rosterHears f (afterFrame s) = peerAgain (senderOf f) s := by
  have hheard : peerHeard (senderOf f) s.roster[senderOf f].announced (afterFrame s) = peerAgain (senderOf f) s := by
    rw [peerHeard_eq, heardEntry_announced]
    rfl
  have hsender : senderOf f ≠ (afterFrame s).number := hp
  rw [← hheard]
  cases f with
  | pulse => cases hpulse
  | recal | release | confirm | claim => exact if_neg hsender

theorem rosterHears_own (hp : senderOf f = s.number) (hpulse : isPulse f = false) :
    rosterHears f (afterFrame s) = afterFrame s := by
  have hsender : senderOf f = (afterFrame s).number := hp
  cases f with
  | pulse => cases hpulse
  | recal | release | confirm | claim => exact if_pos hsender

/-! ### The claim table (03) -/

theorem entryHolder_of_taken {e : Entry} (h' : claimIsTaken e h n = true) : entryHolder e ≠ some h := by
  cases e with
  | free | guarded => exact nofun
  | owned => cases h'
  | contested old held abandon contest =>
    obtain ⟨hne, -⟩ := of_decide_eq_true h'
    exact fun hc => hne (Option.some.inj hc)

/-- A CLAIM heard is taken from whoever it displaces, or refused, and counted where its sender holds already (03, R46
to R48, R65). -/
theorem claimHeard_eq (h : Holder) (g : Group) (n : Nat) (s : State) : claimHeard h g n s =
    if claimIsTaken s.table.entries[g] h n then claimTakes g h n (afterDisplacement g h n s)
    else claimRefused h (if entryHolder s.table.entries[g] = some h then strayFrame s else s) := by
  unfold claimHeard afterDisplacement
  cases he : s.table.entries[g] with
  | free => simp [claimIsTaken]
  | guarded => simp [claimIsTaken]
  | owned old held since =>
    by_cases heq : h = old
    · simp [claimIsTaken, entryHolder, heq]
    · simp [claimIsTaken, entryHolder, heq, Ne.symm heq]
  | contested old held abandon contest =>
    by_cases heq : h = old
    · simp [claimIsTaken, entryHolder, heq]
    · by_cases hless : held < n
      · simp [claimIsTaken, heq, Ne.symm heq, hless, holderLoses_eq]
      · simp [claimIsTaken, entryHolder, heq, Ne.symm heq, hless]

/-- Who loses group `g` to a CLAIM is told by neither the link nor the roster nor the log. -/
theorem afterDisplacement_eq (link : Link) (roster : Vector RosterEntry 16) (log : EventLog) :
    afterDisplacement g h n { s with link := link, roster := roster, log := log } = { s with
      chans := (afterDisplacement g h n s).chans, queue := (afterDisplacement g h n s).queue
      link := link, roster := roster, log := log } := by
  unfold afterDisplacement
  dsimp only
  split
  next old held abandon contest he =>
    by_cases htaken : claimIsTaken (.contested old held abandon contest) h n = true
    · rw [if_pos htaken, if_pos htaken]
      unfold afterLoss
      by_cases hlocal : old.station = s.number
      · rw [if_pos hlocal, if_pos (by exact hlocal)]
      · rw [if_neg hlocal, if_neg (by exact hlocal)]
    · rw [if_neg htaken, if_neg htaken]
  next => rfl

/-- A local holder in CONTENDING is PRESSED, with its hold timer (03, R52; 04, R79). -/
theorem press_eq (h : Holder) (s : State) : press h s = { s with
    chans := if h.station = s.number ∧ s.chans[h.channel].state = .contending then
        s.chans.set h.channel { s.chans[h.channel] with state := .pressed, holdTimer := s.tracker.settings.holdUs }
      else s.chans } := by
  have hlocal : (s.isLocal h && decide (s.chans[h.channel].state = .contending)) = true
      ↔ h.station = s.number ∧ s.chans[h.channel].state = .contending := by
    rw [Bool.and_eq_true, State.isLocal, decide_eq_true_eq, decide_eq_true_eq]
  unfold press
  by_cases hholds : h.station = s.number ∧ s.chans[h.channel].state = .contending
  · rw [if_pos (hlocal.mpr hholds), if_pos hholds]
    rfl
  · rw [if_neg fun hc => hholds (hlocal.mp hc), if_neg hholds]

/-- A CONFIRM of the holder of a contest (03, R52; 04, R79). -/
theorem confirmHeard_of_contest {held abandon : Nat} {contest : Option Nat}
    (he : s.table.entries[g] = .contested h held abandon contest) : confirmHeard h g s = { s with
      table := { s.table with entries := s.table.entries.set g (.owned h held s.log.clock) }
      log := logPut s.log (.keyDown h g held .confirmed)
      chans := if h.station = s.number ∧ s.chans[h.channel].state = .contending then
          s.chans.set h.channel { s.chans[h.channel] with
            state := .pressed, holdTimer := s.tracker.settings.holdUs }
        else s.chans } := by
  simp only [confirmHeard, he, if_true]
  rw [press_eq]
  rfl

/-- A CONFIRM of who is not the holder of a contest is stray (03, R65). -/
theorem confirmHeard_of_not (hnot : isContestOf h s.table.entries[g] = false) : confirmHeard h g s = strayFrame s := by
  unfold confirmHeard
  split
  next old held abandon contest he =>
    rw [he] at hnot
    rw [if_neg fun heq => of_decide_eq_false hnot heq.symm]
  next => rfl

/-- What a RELEASE puts in the log: KEY-UP of its reason where the group was OWNED (03, R54, R66). -/
def releaseEvents (h : Holder) (g : Group) (reason : Reason) (e : Entry) : List Event :=
  match e with
  | .owned _ _ _ => [.keyUp h g (upReason reason)]
  | _ => []

/-- A RELEASE of the holder (03, R54). -/
theorem releaseHeard_of_holder (reason : Reason) (hholder : entryHolder s.table.entries[g] = some h) :
    releaseHeard h g reason s = { s with
      table := { s.table with entries := s.table.entries.set g (.guarded 24000) }
      log := (releaseEvents h g reason s.table.entries[g]).foldl logPut s.log } := by
  unfold releaseHeard
  cases he : s.table.entries[g] with
  | free | guarded => rw [he] at hholder; cases hholder
  | contested old held abandon contest =>
    rw [he] at hholder
    dsimp only
    rw [if_pos (Option.some.inj hholder).symm]
    rfl
  | owned old held since =>
    rw [he] at hholder
    dsimp only
    rw [if_pos (Option.some.inj hholder).symm]
    rfl

/-- A RELEASE of who does not hold the group is stray (03, R65). -/
theorem releaseHeard_of_not (reason : Reason) (hholder : entryHolder s.table.entries[g] ≠ some h) :
    releaseHeard h g reason s = strayFrame s := by
  unfold releaseHeard
  split
  next old held abandon contest he =>
    rw [if_neg]
    rintro rfl
    exact hholder (by rw [he]; rfl)
  next old held since he =>
    rw [if_neg]
    rintro rfl
    exact hholder (by rw [he]; rfl)
  next => rfl

theorem strayFrame_eq (s : State) : strayFrame s = { s with
    table := { s.table with stray := satInc s.table.stray } } := rfl

/-! ### The groups whose entries a frame changed (04, R71) -/

theorem entryChanged_self (entries : Vector Entry 8) (g : Group) : entryChanged entries entries g = false := by
  rw [entryChanged_eq]
  exact decide_eq_false (not_not.mpr rfl)

theorem entryChanged_set {e : Entry} {old : Vector Entry 8} (hne : standing e ≠ standing old[g]) :
    entryChanged old (old.set g e) = fun d => decide (d = g) := by
  rw [entryChanged_eq]
  exact changed_set hne

theorem not_tableDiffers_self (entries : Vector Entry 8) : ¬ TableDiffers entries entries :=
  fun ⟨_, hne⟩ => hne rfl

/-- No group to evaluate. -/
theorem evaluate_congr {which which' : Group → Bool} (hw : ∀ g, which g = which' g) (s : State) :
    evaluate which s = evaluate which' s := by
  rw [funext hw]

/-- A table with a CONTESTED or OWNED entry is busy (07, R130). -/
theorem tableBusy_of_holder {entries : Vector Entry 8} (hholder : entryHolder entries[g] = some h) :
    tableBusy entries = true := by
  refine List.any_eq_true.mpr ⟨g, List.mem_finRange g, ?_⟩
  cases he : entries[g] with
  | free | guarded => rw [he] at hholder; cases hholder
  | contested | owned => rfl

end

end Sys2Proof.Machine
end

section
/-! PROOF. A peer's CONFIRM and RELEASE (03, R52, R54; 04, R71, R72; 07, R120, R128 to R130). -/

namespace Sys2Proof.Machine

/-- The station once a peer's frame other than a PULSE has been taken, with what the claim table made of the records,
the queue, the table and the log, before the groups changed are evaluated. -/
def peerTaken (p : Station) (active : Bool) (chans : Vector Chan 16) (queue : TxQueue) (table : ClaimTable)
    (events : List Event) (s : State) : State :=
  { s with
    chans := chans
    queue := if active then queueAtWake s queue else queue
    table := table
    roster := s.roster.set p (heardAgain s.roster[p])
    log := (joinedEvents s p ++ events ++ if active then wakeEvents s else []).foldl logPut s.log
    cad := cadenceAfter active s table.entries
    link := { s.link with line := .seeking 7 } }

section
variable {s : State} {f : Frame} {g : Group} {p : Station}

/-- A peer's frame other than a PULSE or a RECAL as an equation for the whole state. -/
theorem deliver_peer {chans : Vector Chan 16} {queue : TxQueue} {table : ClaimTable} {events : List Event}
    (hp : senderOf f ≠ s.number) (hpulse : isPulse f = false) (hrecal : isRecal f = false)
    (hheard : tableHears f (peerAgain (senderOf f) s) = { peerAgain (senderOf f) s with
      chans := chans, queue := queue, table := table
      log := events.foldl logPut (peerAgain (senderOf f) s).log }) :
    deliver f none s = evaluate (entryChanged s.table.entries table.entries)
      (peerTaken (senderOf f) (isActivity s.number f) chans queue table events s) := by
  have hcadence : cadenceHears f s.table.entries (heardBy f s)
      = peerTaken (senderOf f) (isActivity s.number f) chans queue table events s := by
    rw [heardBy, rosterHears_peer hp hpulse, hheard]
    refine (cadenceHears_eq (s := s) (u := { peerAgain (senderOf f) s with
      chans := chans, queue := queue, table := table
      log := events.foldl logPut (peerAgain (senderOf f) s).log }) hrecal rfl rfl rfl).trans ?_
    simp only [peerTaken, peerAgain, List.foldl_append]
  rw [deliver_none, hcadence]
  rfl

theorem peerTaken_sameOutsidePanel {active : Bool} {chans : Vector Chan 16} {queue : TxQueue} {table : ClaimTable}
    {events : List Event} : SameOutsidePanel s (peerTaken p active chans queue table events s) :=
  ⟨rfl, rfl, rfl, rfl, rfl, rfl, rfl, rfl⟩

theorem queueAtWake_groups (s : State) (q : TxQueue) : (queueAtWake s q).groups = q.groups := by
  unfold queueAtWake
  split <;> rfl

/-- The activity events of R128 among the frames other than a PULSE. -/
theorem activeQueue_groups (active : Bool) (s : State) (q : TxQueue) :
    (if active then queueAtWake s q else q).groups = q.groups := by
  split
  · exact queueAtWake_groups s q
  · rfl

/-- A CONFIRM as the claim table takes it, from a peer. -/
theorem confirmHeard_peer_won {h : Holder} {held abandon : Nat} {contest : Option Nat} (hp : h.station ≠ s.number)
    (he : s.table.entries[g] = .contested h held abandon contest) :
    confirmHeard h g (peerAgain h.station s) = { peerAgain h.station s with
      chans := s.chans, queue := s.queue
      table := { s.table with entries := s.table.entries.set g (.owned h held s.log.clock) }
      log := [Event.keyDown h g held .confirmed].foldl logPut (peerAgain h.station s).log } := by
  have hclock : (peerAgain h.station s).log.clock = s.log.clock := foldl_logPut_clock _ _
  rw [confirmHeard_of_contest (s := peerAgain h.station s) he, hclock, if_neg fun hc => hp hc.1]
  rfl

/-- A stray CONFIRM of a peer. -/
theorem confirmHeard_peer_stray {h : Holder} (hnot : isContestOf h s.table.entries[g] = false) :
    confirmHeard h g (peerAgain p s) = { peerAgain p s with
      chans := s.chans, queue := s.queue, table := { s.table with stray := satInc s.table.stray }
      log := [].foldl logPut (peerAgain p s).log } :=
  confirmHeard_of_not (s := peerAgain p s) hnot

/-- A peer's RELEASE of a group that it holds. -/
theorem releaseHeard_peer_held {h : Holder} (reason : Reason) (hholder : entryHolder s.table.entries[g] = some h) :
    releaseHeard h g reason (peerAgain p s) = { peerAgain p s with
      chans := s.chans, queue := s.queue
      table := { s.table with entries := s.table.entries.set g (.guarded 24000) }
      log := (releaseEvents h g reason s.table.entries[g]).foldl logPut (peerAgain p s).log } :=
  releaseHeard_of_holder (s := peerAgain p s) reason hholder

/-- A stray RELEASE of a peer. -/
theorem releaseHeard_peer_stray {h : Holder} (reason : Reason) (hholder : entryHolder s.table.entries[g] ≠ some h) :
    releaseHeard h g reason (peerAgain p s) = { peerAgain p s with
      chans := s.chans, queue := s.queue, table := { s.table with stray := satInc s.table.stray }
      log := [].foldl logPut (peerAgain p s).log } :=
  releaseHeard_of_not (s := peerAgain p s) reason hholder

/-- What is left as it was where a peer's frame concerns group `g` alone, and changes no record and no slot itself. -/
theorem peerTaken_evaluated {active : Bool} {table : ClaimTable} {events : List Event} {which : Group → Bool}
    (hwhich : ∀ d : Group, d ≠ g → which d = false) :
    let t := evaluate which (peerTaken p active s.chans s.queue table events s)
    (∀ d : Group, d ≠ g → t.queue.groups[d] = s.queue.groups[d])
      ∧ (∀ d : Channel, s.chans[d].setup.group ≠ g → t.chans[d] = s.chans[d])
      ∧ t.table = table ∧ t.roster = s.roster.set p (heardAgain s.roster[p])
      ∧ t.log = (joinedEvents s p ++ events ++ if active then wakeEvents s else []).foldl logPut s.log
      ∧ t.cad = cadenceAfter active s table.entries
      ∧ t.link = { s.link with line := .seeking 7 } ∧ t.tracker = s.tracker ∧ SameOutsidePanel s t := by
  intro t
  obtain ⟨-, -, -, -, -, htracker, htable, hlink, hroster, hcad, -, hlog, -⟩ :=
    evaluate_keeps (peerTaken p active s.chans s.queue table events s) which
  have hgroups : (peerTaken p active s.chans s.queue table events s).queue.groups = s.queue.groups :=
    activeQueue_groups active s s.queue
  refine ⟨fun d hd => ?_, fun d hd => ?_, htable, hroster, hlog, hcad, hlink, htracker,
    evaluate_sameOutsidePanel which peerTaken_sameOutsidePanel⟩
  · rw [evaluate_slot_other _ _ d (hwhich d hd), hgroups]
  · exact evaluate_chan_other _ _ d (hwhich _ hd)

/-- A peer's CONFIRM (03, R52). -/
theorem deliver_peer_confirm {c : Channel} (hp : p ≠ s.number) {table : ClaimTable} {events : List Event}
    (hheard : confirmHeard { station := p, channel := c } g (peerAgain p s) = { peerAgain p s with
      chans := s.chans, queue := s.queue, table := table, log := events.foldl logPut (peerAgain p s).log }) :
    deliver (.confirm p g c) none s = evaluate (entryChanged s.table.entries table.entries)
      (peerTaken p true s.chans s.queue table events s) :=
  deliver_peer (f := .confirm p g c) hp rfl rfl hheard

/-- A peer's RELEASE (03, R54). -/
theorem deliver_peer_release {c : Channel} {reason : Reason} (hp : p ≠ s.number) {table : ClaimTable}
    {events : List Event} (hheard : releaseHeard { station := p, channel := c } g reason (peerAgain p s) = {
      peerAgain p s with
      chans := s.chans, queue := s.queue, table := table, log := events.foldl logPut (peerAgain p s).log }) :
    deliver (.release p g c reason) none s = evaluate (entryChanged s.table.entries table.entries)
      (peerTaken p false s.chans s.queue table events s) :=
  deliver_peer (f := .release p g c reason) hp rfl rfl hheard

theorem isContestOf_iff {h : Holder} {e : Entry} : isContestOf h e = true
    ↔ ∃ held abandon contest, e = .contested h held abandon contest := by
  cases e with
  | contested old held abandon contest => simp [isContestOf]
  | free | owned | guarded => simp [isContestOf]

end

/-- Settles O16: the entry that the frame settles, with its group alone evaluated, or a stray frame. -/
theorem peerConfirmAndReleaseSettleAGroup : Obligations.PeerConfirmAndReleaseSettleAGroup := by
  intro s p g c hp
  refine ⟨fun hreceives => ?confirm, fun reason hreceives => ?release⟩
  case confirm =>
    rw [exec_frameHeard_peer hreceives hp]
    by_cases hwon : isContestOf { station := p, channel := c } s.table.entries[g] = true
    · obtain ⟨held, abandon, contest, he⟩ := isContestOf_iff.mp hwon
      have hne : standing (.owned { station := p, channel := c } held s.log.clock) ≠ standing s.table.entries[g] := by
        rw [he]
        exact nofun
      rw [deliver_peer_confirm hp (confirmHeard_peer_won hp he), entryChanged_set hne]
      obtain ⟨hslots, hchans, htable, hroster, hlog, hcad, hlink, htracker, houtside⟩ := peerTaken_evaluated (s := s)
        (p := p) (active := true) (events := [.keyDown { station := p, channel := c } g held .confirmed])
        (table := { s.table with
          entries := s.table.entries.set g (.owned { station := p, channel := c } held s.log.clock) })
        (which := fun d => decide (d = g)) fun d hd => decide_eq_false hd
      refine ⟨_, rfl, ?_, hslots, hchans, hroster, ?_, hlink, htracker, houtside, ?_⟩
      · rw [he]
        dsimp only
        rw [if_pos rfl]
        exact ⟨htable, hlog⟩
      · rw [hcad, htable]
        rfl
      · rw [htable, hroster, hlog, hcad, hlink]
        refine congrArg₂ evaluate (funext fun d => ?_) rfl
        rw [hwon, Bool.and_true]
    · have hnot : isContestOf { station := p, channel := c } s.table.entries[g] = false := Bool.not_eq_true _ ▸ hwon
      rw [deliver_peer_confirm (events := []) hp (confirmHeard_peer_stray hnot)]
      obtain ⟨hslots, hchans, htable, hroster, hlog, hcad, hlink, htracker, houtside⟩ := peerTaken_evaluated (s := s)
        (p := p) (g := g) (active := true) (events := []) (table := { s.table with stray := satInc s.table.stray })
        (which := entryChanged s.table.entries s.table.entries) fun d _ => entryChanged_self _ d
      have hevents : (joinedEvents s p ++ [] ++ if true = true then wakeEvents s else []).foldl logPut s.log
          = (joinedEvents s p ++ wakeEvents s).foldl logPut s.log := by rw [List.append_nil, if_pos rfl]
      refine ⟨_, rfl, ?_, hslots, hchans, hroster, ?_, hlink, htracker, houtside, ?_⟩
      · split
        next old held abandon contest he =>
          rw [if_neg]
          · exact ⟨htable, hlog.trans hevents⟩
          · rintro rfl
            rw [he] at hnot
            exact of_decide_eq_false hnot rfl
        next => exact ⟨htable, hlog.trans hevents⟩
      · rw [hcad, htable]
        rfl
      · rw [htable, hroster, hlog, hcad, hlink]
        refine congrArg₂ evaluate (funext fun d => ?_) rfl
        rw [hnot, Bool.and_false, entryChanged_self]
  case release =>
    rw [exec_frameHeard_peer hreceives hp]
    by_cases hholder : entryHolder s.table.entries[g] = some { station := p, channel := c }
    · have hne : standing (.guarded 24000) ≠ standing s.table.entries[g] := by
        cases he : s.table.entries[g] with
        | free | guarded => rw [he] at hholder; cases hholder
        | contested | owned => exact nofun
      rw [deliver_peer_release hp (releaseHeard_peer_held reason hholder), entryChanged_set hne]
      obtain ⟨hslots, hchans, htable, hroster, hlog, hcad, hlink, htracker, houtside⟩ := peerTaken_evaluated (s := s)
        (p := p) (active := false)
        (events := releaseEvents { station := p, channel := c } g reason s.table.entries[g])
        (table := { s.table with entries := s.table.entries.set g (.guarded 24000) })
        (which := fun d => decide (d = g)) fun d hd => decide_eq_false hd
      have hkept : cadenceAfter false s (s.table.entries.set g (.guarded 24000))
          = if s.cad.cadence = .brisk then
            { s.cad with quiet := quietWith s (s.table.entries.set g (.guarded 24000)) } else s.cad := by
        simp only [cadenceAfter, tableDiffers_set hne, and_true, Bool.false_eq_true, if_false]
      rw [hkept] at hcad
      refine ⟨_, rfl, ?_, hslots, hchans, ?_, ?_, ?_, hroster, hlink, htracker, houtside, ?_⟩
      · rw [if_pos hholder]
        refine ⟨htable, ?_, ?_⟩
        · rw [hlog, if_neg nofun, List.append_nil]
          refine congrArg (fun es => (joinedEvents s p ++ es).foldl logPut s.log) ?_
          cases s.table.entries[g] with
          | owned => cases reason <;> rfl
          | free | contested | guarded => rfl
        · rw [hcad, htable]
          split <;> rfl
      · rw [hcad]
        split <;> rfl
      · rw [hcad]
        split <;> rfl
      · rw [hcad]
        split <;> rfl
      · rw [htable, hroster, hlog, hcad, hlink]
        refine congrArg₂ evaluate (funext fun d => ?_) ?_
        · simp only [hholder, and_true]
        · rw [← hkept]
          rfl
    · rw [deliver_peer_release hp (releaseHeard_peer_stray reason hholder)]
      obtain ⟨hslots, hchans, htable, hroster, hlog, hcad, hlink, htracker, houtside⟩ := peerTaken_evaluated (s := s)
        (p := p) (g := g) (active := false) (events := []) (table := { s.table with stray := satInc s.table.stray })
        (which := entryChanged s.table.entries s.table.entries) fun d _ => entryChanged_self _ d
      have hkept : cadenceAfter false s s.table.entries = s.cad := by
        simp only [cadenceAfter, not_tableDiffers_self, and_false, Bool.false_eq_true, if_false]
      rw [hkept] at hcad
      have hevents : (joinedEvents s p ++ [] ++ if false = true then wakeEvents s else []).foldl logPut s.log
          = (joinedEvents s p).foldl logPut s.log := by rw [List.append_nil, if_neg nofun, List.append_nil]
      refine ⟨_, rfl, ?_, hslots, hchans, ?_, ?_, ?_, hroster, hlink, htracker, houtside, ?_⟩
      · rw [if_neg hholder]
        exact ⟨htable, hlog.trans hevents, by rw [hcad]⟩
      · rw [hcad]
      · rw [hcad]
      · rw [hcad]
      · rw [htable, hroster, hlog, hcad, hlink]
        refine congrArg₂ evaluate (funext fun d => ?_) ?_
        · simp only [hholder, and_false, decide_false, entryChanged_self]
        · rw [← hkept]
          rfl

end Sys2Proof.Machine
end

section
/-! PROOF. A peer's CLAIM (03, R46 to R48; 04, R71, R72; 06, R111; 07, R120, R128 to R130). -/

namespace Sys2Proof.Machine

section
variable {s u : State} {g : Group} {h : Holder} {p : Station} {n : Nat}

/-! ### Taken, with whoever it displaces, or refused (03, R46 to R48) -/

theorem afterDisplacement_of_not (htaken : claimIsTaken s.table.entries[g] h n = false) :
    afterDisplacement g h n s = s := by
  unfold afterDisplacement
  split
  next old held abandon contest he =>
    rw [he] at htaken
    rw [htaken]
    exact if_neg nofun
  next => rfl

/-- The claim table after a peer's CLAIM. -/
def claimedTable (g : Group) (h : Holder) (n : Nat) (s : State) : ClaimTable :=
  if claimIsTaken s.table.entries[g] h n then
    { s.table with entries := s.table.entries.set g (.contested h n 250000 none) }
  else if entryHolder s.table.entries[g] = some h then { s.table with stray := satInc s.table.stray }
  else s.table

theorem claimTakes_peer (hp : h.station ≠ u.number) : claimTakes g h n u =
    u.setEntry g (.contested h n 250000 none) := by
  have hlocal : u.isLocal h = false := decide_eq_false hp
  rw [claimTakes, hlocal, Bool.false_and]
  exact if_neg nofun

theorem claimRefused_peer (hp : h.station ≠ u.number) : claimRefused h u = u := by
  have hlocal : u.isLocal h = false := decide_eq_false hp
  rw [claimRefused, hlocal, Bool.false_and]
  exact if_neg nofun

theorem claimHeard_peer (hp : h.station ≠ s.number) : claimHeard h g n (peerAgain p s) = { peerAgain p s with
    chans := (afterDisplacement g h n s).chans, queue := (afterDisplacement g h n s).queue
    table := claimedTable g h n s, log := [].foldl logPut (peerAgain p s).log } := by
  have hdisplaced : afterDisplacement g h n (peerAgain p s) = { peerAgain p s with
      chans := (afterDisplacement g h n s).chans, queue := (afterDisplacement g h n s).queue } :=
    afterDisplacement_eq _ _ _
  have htable : (peerAgain p s).table = s.table := rfl
  rw [claimHeard_eq, hdisplaced, htable]
  cases htaken : claimIsTaken s.table.entries[g] h n with
  | true =>
    rw [if_pos rfl, claimTakes_peer (by exact hp), claimedTable, htaken, if_pos rfl]
    rfl
  | false =>
    rw [if_neg Bool.false_ne_true, claimedTable, htaken, if_neg Bool.false_ne_true, afterDisplacement_of_not htaken]
    by_cases hholder : entryHolder s.table.entries[g] = some h
    · rw [if_pos hholder, if_pos hholder, claimRefused_peer (by exact hp)]
      rfl
    · rw [if_neg hholder, if_neg hholder, claimRefused_peer (by exact hp)]
      rfl

theorem standing_contested_ne {e : Entry} {abandon : Nat} {contest : Option Nat} (htaken : claimIsTaken e h n = true) :
    standing (.contested h n abandon contest) ≠ standing e := by
  cases e with
  | free | guarded => exact nofun
  | owned => cases htaken
  | contested old held _ _ =>
    obtain ⟨hne, -⟩ := of_decide_eq_true htaken
    intro hc
    injection hc with hh
    exact hne hh.symm

theorem claimedTable_changed : entryChanged s.table.entries (claimedTable g h n s).entries
    = fun d => claimIsTaken s.table.entries[g] h n && decide (d = g) := by
  unfold claimedTable
  cases htaken : claimIsTaken s.table.entries[g] h n with
  | true =>
    rw [if_pos rfl]
    dsimp only
    rw [entryChanged_set (standing_contested_ne htaken)]
    funext d
    rw [Bool.true_and]
  | false =>
    have hsame : (if entryHolder s.table.entries[g] = some h then { s.table with stray := satInc s.table.stray }
        else s.table).entries = s.table.entries := by split <;> rfl
    rw [if_neg nofun, hsame]
    funext d
    rw [entryChanged_self, Bool.false_and]

theorem claimedTable_entry : (claimedTable g h n s).entries[g] =
    if claimIsTaken s.table.entries[g] h n then .contested h n 250000 none else s.table.entries[g] := by
  unfold claimedTable
  split
  · exact set_get_same _ _ _
  · split <;> rfl

theorem claimedTable_entry_other {d : Group} (hd : d ≠ g) :
    (claimedTable g h n s).entries[d] = s.table.entries[d] := by
  unfold claimedTable
  split
  · exact set_get_other _ (Ne.symm hd) _
  · split <;> rfl

/-- After a CLAIM its group is CONTESTED or OWNED. -/
theorem claimedTable_busy : tableBusy (claimedTable g h n s).entries = true := by
  have hheld : ∃ holder, entryHolder (claimedTable g h n s).entries[g] = some holder := by
    rw [claimedTable_entry]
    cases he : s.table.entries[g] with
    | free | guarded => exact ⟨h, rfl⟩
    | owned old held since => exact ⟨old, rfl⟩
    | contested old held abandon contest =>
      split
      · exact ⟨h, rfl⟩
      · exact ⟨old, rfl⟩
  obtain ⟨holder, hholder⟩ := hheld
  exact tableBusy_of_holder hholder

/-! ### Who is displaced (03, R47; 06, R111) -/

/-- A contest won over a holder is displaced as an abandoned one is lost. -/
theorem afterDisplacement_contested {old : Holder} {held abandon : Nat} {contest : Option Nat}
    (he : s.table.entries[g] = .contested old held abandon contest) (hne : old ≠ h) (hless : held < n) :
    afterDisplacement g h n s = afterLoss g old s := by
  unfold afterDisplacement
  rw [he]
  exact if_pos (decide_eq_true ⟨hne, hless⟩)

/-- All that a displacement can do. -/
theorem afterDisplacement_cases (g : Group) (h : Holder) (n : Nat) (s : State) : afterDisplacement g h n s = s
    ∨ ∃ old, entryHolder s.table.entries[g] = some old ∧ afterDisplacement g h n s = afterLoss g old s := by
  unfold afterDisplacement
  split
  next old held abandon contest he =>
    split
    · exact .inr ⟨old, by rw [he]; rfl, rfl⟩
    · exact .inl rfl
  next => exact .inl rfl

theorem afterDisplacement_chan_other {d : Channel}
    (hd : entryHolder s.table.entries[g] ≠ some { station := s.number, channel := d }) :
    (afterDisplacement g h n s).chans[d] = s.chans[d] := by
  obtain heq | ⟨old, hold, heq⟩ := afterDisplacement_cases g h n s
  · rw [heq]
  · rw [heq]
    exact afterLoss_chan_other fun hc => hd (by rw [hold, hc])

theorem afterDisplacement_slot_other {d : Group} (hd : d ≠ g) :
    (afterDisplacement g h n s).queue.groups[d] = s.queue.groups[d] := by
  obtain heq | ⟨old, -, heq⟩ := afterDisplacement_cases g h n s
  · rw [heq]
  · rw [heq]
    exact afterLoss_slot_other hd

theorem afterDisplacement_queue_keeps : (afterDisplacement g h n s).queue.recal = s.queue.recal
    ∧ (afterDisplacement g h n s).queue.intervalTimer = s.queue.intervalTimer
    ∧ (afterDisplacement g h n s).queue.pulse = s.queue.pulse
    ∧ (afterDisplacement g h n s).queue.renewal = s.queue.renewal
    ∧ (afterDisplacement g h n s).queue.inFlight = s.queue.inFlight := by
  obtain heq | ⟨old, -, heq⟩ := afterDisplacement_cases g h n s
  · rw [heq]
    exact ⟨rfl, rfl, rfl, rfl, rfl⟩
  · rw [heq]
    unfold afterLoss
    split <;> exact ⟨rfl, rfl, rfl, rfl, rfl⟩

theorem queueAtWake_keeps (s : State) (q : TxQueue) : (queueAtWake s q).recal = q.recal
    ∧ (queueAtWake s q).intervalTimer = q.intervalTimer ∧ (queueAtWake s q).inFlight = q.inFlight
    ∧ (queueAtWake s q).withdrawnInFlight = q.withdrawnInFlight := by
  unfold queueAtWake
  split <;> exact ⟨rfl, rfl, rfl, rfl⟩

theorem afterDisplacement_setup (d : Channel) : (afterDisplacement g h n s).chans[d].setup = s.chans[d].setup := by
  obtain heq | ⟨old, -, heq⟩ := afterDisplacement_cases g h n s
  · rw [heq]
  · rw [heq]
    by_cases hd : old = { station := s.number, channel := d }
    · subst hd
      by_cases hstate : s.chans[d].state = .contending
      · have hlost := afterLoss_chan (g := g) (h := { station := s.number, channel := d }) rfl hstate
        exact (congrArg Chan.setup hlost).trans rfl
      · unfold afterLoss
        rw [if_pos rfl]
        dsimp only
        rw [if_neg hstate]
    · rw [afterLoss_chan_other hd]

/-- A displaced holder's own frames are gone from a slot not in flight. -/
theorem afterLoss_slot_emptied (hlocal : h.station = s.number) (hfly : s.queue.inFlight ≠ some (.group g))
    (hnames : (s.queue.groups[g].frame.all fun f => decide (frameChannel f = h.channel)) = true) :
    (afterLoss g h s).queue.groups[g].frame = none := by
  rw [afterLoss_slot hlocal, decide_eq_false hfly]
  unfold slotAfterWithdrawal
  cases hf : s.queue.groups[g].frame with
  | none => rfl
  | some f =>
    rw [hf] at hnames
    have hname : decide (frameChannel f = h.channel) = true := hnames
    simp [hname]

end

/-- Settles O15: the frame is `claimedTable` with whoever it displaces, and its group evaluated where it is taken. -/
theorem peerClaimTakesDisplacesOrIsRefused : Obligations.PeerClaimTakesDisplacesOrIsRefused := by
  intro s p g c n hreceives hp h displaced
  have hdeliver : deliver (.claim n p g c) none s
      = evaluate (fun d => claimIsTaken s.table.entries[g] h n && decide (d = g))
        (peerTaken p true displaced.chans displaced.queue (claimedTable g h n s) [] s) := by
    rw [← claimedTable_changed]
    exact deliver_peer (f := .claim n p g c) hp rfl rfl (claimHeard_peer (h := h) hp)
  rw [exec_frameHeard_peer hreceives hp, hdeliver]
  obtain ⟨u, hu⟩ : ∃ u, u = peerTaken p true displaced.chans displaced.queue (claimedTable g h n s) [] s := ⟨_, rfl⟩
  obtain ⟨which, hwhich⟩ : ∃ which : Group → Bool, which =
    fun d => claimIsTaken s.table.entries[g] h n && decide (d = g) :=
    ⟨_, rfl⟩
  rw [← hu, ← hwhich]
  obtain ⟨-, -, -, -, -, htracker, htable, hlink, hroster, hcad, -, hlog, -⟩ := evaluate_keeps u which
  have hother (d : Group) (hd : d ≠ g) : which d = false := by
    rw [hwhich]
    simp only [hd, decide_false, Bool.and_false]
  have huTable : u.table = claimedTable g h n s := by rw [hu]; rfl
  have huChans : u.chans = displaced.chans := by rw [hu]; rfl
  have huGroups : u.queue.groups = displaced.queue.groups := by rw [hu]; exact activeQueue_groups true s _
  have huQueue : u.queue = queueAtWake s displaced.queue := by rw [hu]; rfl
  have hwake := queueAtWake_keeps s displaced.queue
  obtain ⟨hrecal, hinterval, -⟩ := afterDisplacement_queue_keeps (g := g) (h := h) (n := n) (s := s)
  have huRoster : u.roster = s.roster.set p (heardAgain s.roster[p]) := by rw [hu]; rfl
  have huLog : u.log = (joinedEvents s p ++ wakeEvents s).foldl logPut s.log := by
    rw [hu, peerTaken, List.append_nil]
    rfl
  have huCad : u.cad = { cadence := .brisk, quiet := .held, stirred := s.cad.stirred, taken := s.cad.taken } := by
    have hquiet : quietWith s (claimedTable g h n s).entries = .held := if_pos claimedTable_busy
    rw [hu, ← hquiet]
    rfl
  refine ⟨_, rfl, ?entry, ?others, ?stray, ?abandoned, ?suppressed, ?withdrawn, ?records, ?slots, ?recal, ?interval,
    ?roster, hlog.trans huLog, hcad.trans huCad, ?link, ?tracker, ?outside, ?whole⟩
  case entry =>
    rw [htable, huTable, claimedTable_entry]
    cases s.table.entries[g] with
    | free | guarded => rfl
    | owned => rfl
    | contested old held abandon contest => simp only [claimIsTaken, decide_eq_true_eq]
  case others =>
    intro d hd
    rw [htable, huTable, claimedTable_entry_other hd]
  case stray =>
    rw [htable, huTable, claimedTable]
    split
    next htaken => rw [if_neg (entryHolder_of_taken htaken)]
    next => split <;> rfl
  case abandoned =>
    rw [htable, huTable, claimedTable]
    split
    · rfl
    · split <;> rfl
  case suppressed =>
    intro own held abandon contest he hless hstate
    have hchan : u.chans[own] = { s.chans[own] with state := .suppressed, holdTimer := none } := by
      rw [huChans]
      show (afterDisplacement g h n s).chans[own] = _
      rw [afterDisplacement_contested he (fun hc => hp (congrArg Holder.station hc).symm) hless]
      exact afterLoss_chan (h := { station := s.number, channel := own }) rfl hstate
    rw [evaluate_chan_of_ne_candidate _ _ _ (by rw [hchan]; exact nofun), hchan]
  case withdrawn =>
    intro own held abandon contest he hless hfly hnames
    refine evaluate_slot_of_empty which ?_
    rw [huGroups]
    show (afterDisplacement g h n s).queue.groups[g].frame = none
    rw [afterDisplacement_contested he (fun hc => hp (congrArg Holder.station hc).symm) hless]
    exact afterLoss_slot_emptied (h := { station := s.number, channel := own }) rfl hfly hnames
  case records =>
    intro d hgroup hholder
    have hsame : u.chans[d] = s.chans[d] := by
      rw [huChans]
      exact afterDisplacement_chan_other hholder
    rw [evaluate_chan_other _ _ d (by rw [hsame]; exact hother _ hgroup), hsame]
  case slots =>
    intro d hd
    rw [evaluate_slot_other _ _ d (hother d hd), huGroups]
    exact afterDisplacement_slot_other hd
  case recal =>
    rw [evaluate_queue]
    exact (congrArg TxQueue.recal huQueue).trans (hwake.1.trans hrecal)
  case interval =>
    rw [evaluate_queue]
    exact (congrArg TxQueue.intervalTimer huQueue).trans (hwake.2.1.trans hinterval)
  case roster =>
    rw [hroster, huRoster, heardAgain]
    rcases s.roster[p].announced with _ | ⟨_ | _, hushed, stirred, holdings⟩ <;> rfl
  case link => rw [hlink, hu]; rfl
  case tracker => rw [htracker, hu]; rfl
  case outside =>
    refine evaluate_sameOutsidePanel which ?_
    rw [hu]
    exact peerTaken_sameOutsidePanel
  case whole =>
    rw [htable, hroster, hlog, hcad, hlink, hu]
    rfl

end Sys2Proof.Machine
end

section
/-! PROOF. A peer's PULSE and the roster (03, R63; 07, R120 to R124, R128 to R130). -/

namespace Sys2Proof.Machine

/-- The station once the roster has taken a peer's leaving PULSE, and the claim table with it. -/
def peerLeft (p : Station) (s : State) : State :=
  if s.roster[p].present then
    { s with
      link := { s.link with line := .seeking 7 }
      roster := s.roster.set p absentEntry
      log := ([Event.peerLeft p] ++ keyUps (fun h => decide (h.station = p)) .left s.table.entries).foldl logPut s.log
      table := { s.table with entries := entriesFreed p s.table.entries } }
  else { s with link := { s.link with line := .seeking 7 } }

section
variable {s : State} {p : Station} {fields : PulseFields}

theorem heardBy_leaving (hp : p ≠ s.number) (hleaving : fields.leaving = true) :
    heardBy (.pulse p fields) s = peerLeft p s := by
  have hroster : rosterHears (.pulse p fields) (afterFrame s) = peerLeaves p (afterFrame s) := by
    have hsender : senderOf (.pulse p fields) ≠ (afterFrame s).number := hp
    rw [rosterHears, if_neg hsender]
    exact if_pos hleaving
  have hleft : peerLeaves p (afterFrame s) = peerLeft p s := by
    unfold peerLeaves peerLeft
    have hpresent : (afterFrame s).roster[p].present = s.roster[p].present := rfl
    rw [hpresent]
    split <;> rfl
  have htable (u : State) : tableHears (.pulse p fields) u = u := if_pos (.inr hleaving)
  rw [heardBy, hroster, hleft, htable]

theorem peerLeft_eq (p : Station) (s : State) : peerLeft p s = { s with
    link := { s.link with line := .seeking 7 }, roster := (peerLeft p s).roster, log := (peerLeft p s).log
    table := { s.table with entries := (peerLeft p s).table.entries } } := by
  unfold peerLeft
  split <;> rfl

theorem peerLeft_keeps (p : Station) (s : State) : (peerLeft p s).cad = s.cad ∧ (peerLeft p s).ctrl = s.ctrl
    ∧ (peerLeft p s).tracker = s.tracker ∧ (peerLeft p s).queue = s.queue ∧ (peerLeft p s).chans = s.chans
    ∧ (peerLeft p s).link = { s.link with line := .seeking 7 } := by
  unfold peerLeft
  split <;> exact ⟨rfl, rfl, rfl, rfl, rfl, rfl⟩

/-- The station once cadence control has taken the leaving PULSE too, before the groups freed are evaluated. -/
def leavingTaken (p : Station) (fields : PulseFields) (s : State) : State :=
  { peerLeft p s with
    cad := cadenceAfter fields.stirred s (peerLeft p s).table.entries
    queue := if fields.stirred then queueAtWake s s.queue else s.queue
    log := (if fields.stirred then wakeEvents s else []).foldl logPut (peerLeft p s).log }

/-- A peer's leaving PULSE as an equation for the whole state. -/
theorem deliver_peer_leaving (hp : p ≠ s.number) (hleaving : fields.leaving = true) :
    deliver (.pulse p fields) none s
      = evaluate (entryChanged s.table.entries (peerLeft p s).table.entries) (leavingTaken p fields s) := by
  obtain ⟨hcad, hctrl, htracker, hqueue, -, -⟩ := peerLeft_keeps p s
  rw [deliver_none, heardBy_leaving hp hleaving, cadenceHears_peer_pulse fields hp hcad hctrl htracker, hqueue]
  rfl

end

/-- Settles O19. -/
theorem peerPulseKeepsTheRoster : Obligations.PeerPulseKeepsTheRoster := by
  intro s p fields hreceives hp
  rw [exec_frameHeard_peer hreceives hp]
  cases hleaving : fields.leaving with
  | false =>
    rw [deliver_peer_pulse hp hleaving]
    obtain ⟨-, -, -, -, -, -, htable, -, hroster, hcad, -⟩ :=
      evaluate_keeps (afterRepair p fields s) (repairChanges p fields s)
    have huRoster : (afterRepair p fields s).roster = s.roster.set p (heardEntry (some (announcedOf fields))) := rfl
    refine ⟨_, rfl, fun q hq => ?_, fun _ => ?_, nofun, nofun, ?_, nofun⟩
    · rw [hroster, huRoster, set_get_other _ hq.symm]
    · rw [hroster, huRoster, set_get_same]
      cases hcadence : fields.cadence <;> simp [heardEntry, announcedOf, hcadence] <;> rfl
    · rw [hcad, htable]
      rfl
  | true =>
    rw [deliver_peer_leaving hp hleaving]
    obtain ⟨-, -, -, -, -, htracker, htable, hlink, hroster, hcad, -, hlog, -⟩ :=
      evaluate_keeps (leavingTaken p fields s) (entryChanged s.table.entries (peerLeft p s).table.entries)
    obtain ⟨-, -, -, -, -, hleftLink⟩ := peerLeft_keeps p s
    refine ⟨_, rfl, fun q hq => ?_, nofun, fun _ habsent => ?_, fun _ hpresent => ?_, ?_, fun _ => ?_⟩
    · rw [hroster]
      show (peerLeft p s).roster[q] = _
      unfold peerLeft
      split
      · exact set_get_other _ hq.symm _
      · rfl
    · have hleft : peerLeft p s = { s with link := { s.link with line := .seeking 7 } } :=
        if_neg (by rw [habsent]; exact nofun)
      have htaken : leavingTaken p fields s = { leavingTaken p fields s with
          roster := s.roster, table := s.table
          log := (if fields.stirred then wakeEvents s else []).foldl logPut s.log } := by
        rw [leavingTaken, hleft]
      rw [hroster, htable, hlog, htaken]
      exact ⟨rfl, rfl, rfl⟩
    · have hleft : peerLeft p s = { s with
          link := { s.link with line := .seeking 7 }, roster := s.roster.set p absentEntry
          log := ([Event.peerLeft p]
            ++ keyUps (fun h => decide (h.station = p)) .left s.table.entries).foldl logPut s.log
          table := { s.table with entries := entriesFreed p s.table.entries } } := if_pos hpresent
      have htaken : leavingTaken p fields s = { leavingTaken p fields s with
          roster := s.roster.set p absentEntry
          table := { s.table with entries := entriesFreed p s.table.entries }
          log := ([Event.peerLeft p] ++ keyUps (fun h => decide (h.station = p)) .left s.table.entries
            ++ if fields.stirred then wakeEvents s else []).foldl logPut s.log } := by
        rw [leavingTaken, hleft, List.foldl_append (l' := if fields.stirred then wakeEvents s else [])]
      rw [hroster, htable, hlog, htaken]
      exact ⟨set_get_same _ _ _, fun g => (entriesFreed_get _ _ g).trans (freeHeldBy_eq p _), rfl⟩
    · rw [hcad, htable]
      rfl
    · rw [htable, hroster, hlog, hcad, entryChanged_eq]
      refine congrArg₂ evaluate rfl ?_
      rw [leavingTaken, peerLeft_eq p s]

end Sys2Proof.Machine
end

section
/-! PROOF. The success of an own PULSE (05, R97; 06, R114, R115; 07, R125, R132; 08, R148). -/

namespace Sys2Proof.Machine

/-- The station once an own PULSE has been heard and its attempt has ended. -/
def pulseSucceeded (fields : PulseFields) (s : State) : State :=
  { s with
    queue := { s.queue with
      pulse := s.queue.renewal && s.queue.pulse, renewal := false, inFlight := none
      withdrawnInFlight := false
      intervalTimer := some (match s.cad.cadence with | .brisk => 50000 | .slack => 500000) }
    link := { s.link with line := .seeking 7, attempt := none, linkLow := false, consecutive := 0 }
    roster := s.roster.set s.number { s.roster[s.number] with announced := some {
      cadence := fields.cadence, hushed := fields.hushed, stirred := fields.stirred
      holdings := fields.holdings } }
    cad := if fields.stirred = true ∧ s.cad.taken = true then
      { s.cad with stirred := false, taken := false } else s.cad }

section
variable {s : State} {fields : PulseFields}

/-- The roster takes the own fields, and the table nothing (07, R125). -/
theorem heardBy_own_pulse (honline : s.ctrl.state = .online) : heardBy (.pulse s.number fields) s = { s with
    link := { s.link with line := .seeking 7 }
    roster := s.roster.set s.number { s.roster[s.number] with announced := some (announcedOf fields) } } := by
  have hroster : rosterHears (.pulse s.number fields) (afterFrame s) = ownPulseHeard fields (afterFrame s) := if_pos rfl
  have hown : ownPulseHeard fields (afterFrame s) = { s with
      link := { s.link with line := .seeking 7 }
      roster := s.roster.set s.number { s.roster[s.number] with announced := some (announcedOf fields) } } :=
    if_pos ((online_iff (afterFrame s)).mpr honline)
  have htable (u : State) (hu : u.number = s.number) : tableHears (.pulse s.number fields) u = u :=
    if_pos (.inl hu.symm)
  rw [heardBy, hroster, hown]
  exact htable _ rfl

/-- The PULSE slot at the success of its frame (06, R115). -/
theorem queueSuccess_pulse (heard : Frame) (q : TxQueue) : queueSuccess .pulse heard q = { q with
    pulse := q.renewal && q.pulse, renewal := false, inFlight := none, withdrawnInFlight := false } := by
  obtain ⟨recal, pulse, renewal, groups, inFlight, withdrawn, timer⟩ := q
  cases renewal <;> rfl

theorem pulseIntervalUs_eq (c : Cadence) : pulseIntervalUs c = (match c with | .brisk => 50000 | .slack => 500000) := by
  cases c <;> rfl

theorem stirredAtSuccess_eq (carried : Bool) (c : CadenceControl) : stirredAtSuccess carried c =
    if carried = true ∧ c.taken = true then { c with stirred := false, taken := false } else c := by
  unfold stirredAtSuccess
  exact if_congr (Bool.and_eq_true ..▸ Iff.rfl) rfl rfl

/-- An own PULSE is no activity event, and leaves the claim table (07, R128, R130). -/
theorem cadenceHears_own_pulse {u : State} (hnumber : u.number = s.number) (htable : u.table = s.table) :
    cadenceHears (.pulse s.number fields) s.table.entries u = u := by
  have hsame : anyChanged s.table.entries u.table.entries = false := by
    rw [← Bool.not_eq_true, anyChanged_iff, htable]
    exact not_tableDiffers_self _
  have hown : isActivity u.number (.pulse s.number fields) = false := by
    rw [hnumber, isActivity, decide_eq_false (not_not.mpr rfl), Bool.and_false]
  simp only [cadenceHears, isRecal, hsame, hown, Bool.or_self, Bool.false_eq_true, if_false]

theorem succeededBy_pulse (honline : s.ctrl.state = .online) :
    succeededBy .pulse (.pulse s.number fields) s = pulseSucceeded fields s := by
  have hdone : attemptSucceeds .pulse (.pulse s.number fields) (heardBy (.pulse s.number fields) s)
      = pulseSucceeded fields s := by
    rw [heardBy_own_pulse honline]
    simp only [attemptSucceeds, pulseSuccess, queueSuccess_pulse, pulseIntervalUs_eq, stirredAtSuccess_eq]
    rfl
  rw [succeededBy, hdone]
  exact cadenceHears_own_pulse (s := s) rfl rfl

/-- A stop right after the success of a leaving PULSE (08, R148). -/
theorem stoppedFrom_pulseSucceeded (fields : PulseFields) (s : State) :
    StoppedFrom .offline s (enterStopped .offline (pulseSucceeded fields s)) := by
  obtain ⟨hpending, hwire, hreset, htick, hfront, htracker, hchans, hfree, hstray, habandoned, hqueue, hlink, habsent,
    hcadence, hquiet, hctrl, hlog⟩ := stoppedFrom_enterStopped (st := .offline) nofun nofun (pulseSucceeded fields s)
  refine ⟨hpending, hwire, hreset, htick, hfront, htracker, hchans, hfree, hstray, habandoned, hqueue, hlink, habsent,
    hcadence.trans ?_, hquiet, hctrl, hlog⟩
  unfold pulseSucceeded
  dsimp only
  split <;> rfl

end

/-- Settles O23. -/
theorem ownPulseSuccessStartsTheInterval : Obligations.OwnPulseSuccessStartsTheInterval := by
  intro s a fields hsends honline hslot hframe
  have hexec := exec_frameHeard_own hsends
  rw [hslot, hframe] at hexec
  rw [hframe, hexec, deliver_own, succeededBy_pulse honline]
  refine ⟨_, rfl, fun hstays => ?_, fun hleaving => ?_⟩
  · have hnot : leavesNow (.pulse s.number fields) = false := hstays
    rw [hnot, if_neg Bool.false_ne_true]
    refine evaluate_of_none fun g => ?_
    have hentries : (confirmedAgain .pulse (pulseSucceeded fields s)).table.entries = s.table.entries := rfl
    rw [hentries, entryChanged_self]
    rfl
  · have hnow : leavesNow (.pulse s.number fields) = true := hleaving
    rw [hnow, if_pos rfl]
    exact ⟨stoppedFrom_pulseSucceeded fields s, by simp [pulseSucceeded]⟩

end Sys2Proof.Machine
end

section
/-! PROOF. The success of an own frame of a group (05, R91, R97; 06, R115, R117; 07, R128 to R130): its delivery as an
equation for the whole state, and what every such delivery does alike. -/

namespace Sys2Proof.Machine

/-- The station once an own frame of group `g` has been taken, its attempt has ended and its CONFIRM has been asked
for again, with what the claim table made of the records, the queue, the table and the log and the slot `sl` that the
success leaves, before the group is evaluated. -/
def ownTaken (g : Group) (active : Bool) (chans : Vector Chan 16) (queue : TxQueue) (sl : GroupSlot)
    (table : ClaimTable) (events : List Event) (s : State) : State :=
  { s with
    chans := chans
    queue := { setSlot queue g (if s.ctrl.state = .online then
        slotConfirmedAgain { s with chans := chans, table := table } g sl else sl) with
      inFlight := none, withdrawnInFlight := false
      pulse := queue.pulse || (active && decide (s.cad.cadence = .slack ∧ s.ctrl.state = .online)) }
    table := table
    log := (events ++ if active then wakeEvents s else []).foldl logPut s.log
    cad := cadenceAfter active s table.entries
    link := { s.link with line := .seeking 7, attempt := none, linkLow := false, consecutive := 0 } }

section
variable {s : State} {f : Frame} {g : Group} {active : Bool} {chans : Vector Chan 16} {queue : TxQueue}
  {sl : GroupSlot} {table : ClaimTable} {events : List Event}

/-- The channel whose CONFIRM a frame heard is. -/
def confirmedChannel : Frame → Option Channel
  | .confirm _ _ c => some c
  | _ => none

theorem slotAtSuccess_eq (f : Frame) (withdrawn : Bool) (sl : GroupSlot) :
    slotAtSuccess f withdrawn sl = slotAfterSuccess (confirmedChannel f) withdrawn sl := by
  obtain ⟨frame, followUp⟩ := sl
  cases withdrawn with
  | true => rfl
  | false =>
    rcases followUp with _ | ⟨d, reason⟩
    · rfl
    · cases f with
      | confirm p g' c => simp [slotAtSuccess, slotAfterSuccess, promotedReason, confirmedChannel]
      | recal | release | claim | pulse => simp [slotAtSuccess, slotAfterSuccess, promotedReason, confirmedChannel]

theorem attemptSucceeds_of_not_pulse (slot : TxSlot) (hpulse : isPulse f = false) (u : State) :
    attemptSucceeds slot f u = { u with
      queue := queueSuccess slot f u.queue
      link := { u.link with attempt := none, linkLow := false, consecutive := 0 } } := by
  cases f with
  | pulse => cases hpulse
  | recal | release | confirm | claim => rfl

/-- With no slot in flight an activity event asks for a PULSE without a renewal (06, R113). -/
theorem wakeQueue_eq (active : Bool) {q : TxQueue} (hfly : q.inFlight = none) :
    (if active then queueAtWake s q else q) = { q with
      pulse := q.pulse || (active && decide (s.cad.cadence = .slack ∧ s.ctrl.state = .online)) } := by
  unfold queueAtWake
  cases active with
  | false => simp
  | true =>
    by_cases hslack : s.cad.cadence = .slack ∧ s.ctrl.state = .online
    · simp [hslack, hfly]
    · simp [hslack]

/-- An own frame of group `g` as an equation for the whole state. -/
theorem deliver_own_group (hown : senderOf f = s.number) (hpulse : isPulse f = false) (hrecal : isRecal f = false)
    (hheard : tableHears f (afterFrame s) = { afterFrame s with
      chans := chans, queue := queue, table := table, log := events.foldl logPut s.log })
    (hother : ∀ d : Group, d ≠ g → standing table.entries[d] = standing s.table.entries[d]) :
    deliver f (some (.group g)) s = evaluate (fun d => decide (d = g)) (ownTaken g (isActivity s.number f) chans queue
      (slotAfterSuccess (confirmedChannel f) queue.withdrawnInFlight queue.groups[g]) table events s) := by
  obtain ⟨sl, hsl⟩ : ∃ sl, sl = slotAfterSuccess (confirmedChannel f) queue.withdrawnInFlight queue.groups[g] :=
    ⟨_, rfl⟩
  obtain ⟨done, hdone⟩ : ∃ done : TxQueue, done = { setSlot queue g sl with
      inFlight := none, withdrawnInFlight := false } := ⟨_, rfl⟩
  have hended : attemptSucceeds (.group g) f (heardBy f s) = { s with
      chans := chans, queue := done, table := table, log := events.foldl logPut s.log
      link := { s.link with line := .seeking 7, attempt := none, linkLow := false, consecutive := 0 } } := by
    rw [attemptSucceeds_of_not_pulse _ hpulse, heardBy, rosterHears_own hown hpulse, hheard, hdone, hsl,
      ← slotAtSuccess_eq]
    rfl
  have hsucceeded : succeededBy (.group g) f s = { s with
      chans := chans
      queue := { done with
        pulse := done.pulse || (isActivity s.number f && decide (s.cad.cadence = .slack ∧ s.ctrl.state = .online)) }
      table := table
      log := (events ++ if isActivity s.number f then wakeEvents s else []).foldl logPut s.log
      cad := cadenceAfter (isActivity s.number f) s table.entries
      link := { s.link with line := .seeking 7, attempt := none, linkLow := false, consecutive := 0 } } := by
    rw [succeededBy, hended]
    refine (cadenceHears_eq (s := s) (u := { s with
      chans := chans, queue := done, table := table, log := events.foldl logPut s.log
      link := { s.link with line := .seeking 7, attempt := none, linkLow := false, consecutive := 0 } })
      hrecal rfl rfl rfl).trans ?_
    rw [← List.foldl_append]
    dsimp only
    rw [wakeQueue_eq _ (by rw [hdone])]
  have hconfirmed : confirmedAgain (.group g) (succeededBy (.group g) f s)
      = ownTaken g (isActivity s.number f) chans queue sl table events s := by
    obtain ⟨u, hu⟩ : ∃ u, u = succeededBy (.group g) f s := ⟨_, rfl⟩
    have hflying : u.queue.inFlight = none := by rw [hu, hsucceeded, hdone]
    have hctrl : u.ctrl = s.ctrl := by rw [hu, hsucceeded]
    have hslot : u.queue.groups[g] = sl := by
      rw [hu, hsucceeded, hdone]
      exact set_get_same _ _ _
    show confirmAgain g (succeededBy (.group g) f s) = _
    rw [← hu]
    by_cases honline : s.ctrl.state = .online
    · rw [confirmAgain_eq (by rw [hctrl]; exact honline) (by rw [hflying]; exact nofun), hslot, ownTaken,
        if_pos honline, hu, hsucceeded, hdone]
      simp only [setSlot, Vector.set_set]
      rfl
    · rw [confirmAgain_offline (by rw [hctrl]; exact honline), ownTaken, if_neg honline, hu, hsucceeded, hdone]
      rfl
  have hleaves : leavesNow f = false := by
    cases f with
    | pulse => cases hpulse
    | recal | release | confirm | claim => rfl
  rw [deliver_own, hleaves, if_neg Bool.false_ne_true, hconfirmed, ← hsl]
  refine evaluate_congr (fun d => ?_) _
  have hentries : (ownTaken g (isActivity s.number f) chans queue sl table events s).table.entries = table.entries :=
    rfl
  rw [hentries]
  by_cases hd : d = g
  · subst hd
    simp [slotGroup]
  · have hsame : entryChanged s.table.entries table.entries d = false :=
      decide_eq_false (not_not.mpr (hother d hd).symm)
    simp [slotGroup, hsame, hd, Ne.symm hd]

/-- What every success of a frame of group `g` does alike. -/
theorem ownTaken_evaluated {t : State}
    (ht : t = evaluate (fun d => decide (d = g)) (ownTaken g active chans queue sl table events s)) :
    (∀ d : Group, d ≠ g → t.queue.groups[d] = queue.groups[d])
      ∧ (∀ d : Channel, chans[d].state ≠ .candidate ∨ chans[d].setup.group ≠ g → t.chans[d] = chans[d])
      ∧ t.queue.inFlight = none ∧ t.queue.withdrawnInFlight = false ∧ t.table = table ∧ t.roster = s.roster
      ∧ t.log = (events ++ if active then wakeEvents s else []).foldl logPut s.log
      ∧ t.cad = cadenceAfter active s table.entries
      ∧ t.link = { s.link with line := .seeking 7, attempt := none, linkLow := false, consecutive := 0 }
      ∧ t.tracker = s.tracker ∧ SameOutsidePanel s t := by
  subst ht
  obtain ⟨-, -, -, -, -, htracker, htable, hlink, hroster, hcad, -, hlog, -⟩ :=
    evaluate_keeps (ownTaken g active chans queue sl table events s) fun d => decide (d = g)
  refine ⟨fun d hd => ?_, fun d hd => ?_, ?_, ?_, htable, hroster, hlog, hcad, hlink, htracker,
    evaluate_sameOutsidePanel _ ⟨rfl, rfl, rfl, rfl, rfl, rfl, rfl, rfl⟩⟩
  · rw [evaluate_slot_other _ _ d (decide_eq_false hd)]
    exact setSlot_groups_other _ (Ne.symm hd) _
  · obtain hstate | hgroup := hd
    · exact evaluate_chan_of_ne_candidate _ _ _ hstate
    · exact evaluate_chan_other _ _ d (decide_eq_false hgroup)
  · rw [evaluate_queue]
    rfl
  · rw [evaluate_withdrawnInFlight]
    rfl

theorem ownTaken_slot : (ownTaken g active chans queue sl table events s).queue.groups[g]
    = if s.ctrl.state = .online then slotConfirmedAgain { s with chans := chans, table := table } g sl else sl :=
  set_get_same _ _ _

/-! ### The slot that a success leaves, through the evaluation (04, R72, R73; 06, R108, R115) -/

theorem groupSlot_ext {a b : GroupSlot} (hframe : a.frame = b.frame) (hfollow : a.followUp = b.followUp) : a = b := by
  cases a
  cases b
  rw [GroupSlot.mk.injEq]
  exact ⟨hframe, hfollow⟩

theorem evaluate_slot_followUp (which : Group → Bool) (u : State) :
    (evaluate which u).queue.groups[g].followUp = u.queue.groups[g].followUp := by
  by_cases honline : u.ctrl.state = .online
  · cases hg : which g with
    | false => rw [evaluate_slot_other which u g hg]
    | true => rw [evaluate_slot_of_called honline hg, evaluatedSlot_followUp]
  · rw [evaluate_offline which u (by simpa [State.online] using honline)]

/-- A slot that holds a CONFIRM or a RELEASE stands through an evaluation. -/
theorem evaluate_slot_of_stands {u : State} (which : Group → Bool) {f : GroupFrame}
    (hf : u.queue.groups[g].frame = some f) (hclaim : ∀ b, f ≠ .claim b) :
    (evaluate which u).queue.groups[g] = u.queue.groups[g] := by
  refine groupSlot_ext ?_ (evaluate_slot_followUp which u)
  by_cases honline : u.ctrl.state = .online
  · cases hg : which g with
    | false => rw [evaluate_slot_other which u g hg]
    | true => rw [evaluate_slot_of_called honline hg, evaluatedSlot_stands hf (.inr hclaim), hf]
  · rw [evaluate_offline which u (by simpa [State.online] using honline)]

theorem slotConfirmedAgain_of_release {u : State} {d : Channel} {reason : Reason}
    (hf : sl.frame = some (.release d reason)) : slotConfirmedAgain u g sl = sl := by
  unfold slotConfirmedAgain
  split
  · split
    · rw [hf]
    · rfl
  · rfl

theorem slotConfirmedAgain_of_empty (u : State) (g : Group) :
    slotConfirmedAgain u g { frame := none, followUp := none } = { frame := none, followUp := none }
      ∨ ∃ d, slotConfirmedAgain u g { frame := none, followUp := none }
        = { frame := some (.confirm d), followUp := none } := by
  unfold slotConfirmedAgain
  split
  · split
    · exact .inr ⟨_, rfl⟩
    · exact .inl rfl
  · exact .inl rfl

/-- What stands at the slot of a success once it was left empty, the CONFIRM asked for again and the group
evaluated. -/
theorem evaluate_slot_of_left_empty {u v : State} (which : Group → Bool)
    (hslot : u.queue.groups[g] = slotConfirmedAgain v g { frame := none, followUp := none }) :
    (evaluate which u).queue.groups[g].followUp = none
      ∧ ((evaluate which u).queue.groups[g].frame.all fun f => isClaim f || isConfirm f) = true := by
  obtain hempty | ⟨d, hconfirm⟩ := slotConfirmedAgain_of_empty v g
  · rw [hempty] at hslot
    refine ⟨by rw [evaluate_slot_followUp, hslot], ?_⟩
    have hclaims := evaluate_slot_of_empty which (u := u) (g := g) (by rw [hslot])
    cases hf : (evaluate which u).queue.groups[g].frame with
    | none => rfl
    | some f =>
      rw [hf] at hclaims
      exact Bool.or_eq_true_iff.mpr (.inl hclaims)
  · rw [hconfirm] at hslot
    rw [evaluate_slot_of_stands which (f := .confirm d) (by rw [hslot]) nofun, hslot]
    exact ⟨rfl, rfl⟩

end

end Sys2Proof.Machine
end

section
/-! PROOF. The success of an own CLAIM (03, R46 to R49; 04, R74 to R77; 05, R97; 06, R115, R117). -/

namespace Sys2Proof.Machine

/-- The records after the own CLAIM of channel `c`, heard in `s`. -/
def ownClaimedChans (g : Group) (c : Channel) (n : Nat) (s : State) : Vector Chan 16 :=
  let h : Holder := { station := s.number, channel := c }
  let displaced := afterDisplacement g h n s
  if s.chans[c].state ≠ .candidate then displaced.chans
  else if claimIsTaken s.table.entries[g] h n then displaced.chans.set c { s.chans[c] with state := .contending }
  else displaced.chans.set c { s.chans[c] with state := .suppressed, holdTimer := none }

/-- The claim table after the own CLAIM of channel `c`, heard in `s`. -/
def ownClaimedTable (g : Group) (c : Channel) (n : Nat) (s : State) : ClaimTable :=
  let h : Holder := { station := s.number, channel := c }
  if claimIsTaken s.table.entries[g] h n then { s.table with entries := s.table.entries.set g (.contested h n 250000
    (if s.chans[c].state = .candidate then some s.tracker.settings.contestUs else none)) }
  else if entryHolder s.table.entries[g] = some h then { s.table with stray := satInc s.table.stray }
  else s.table

section
variable {s u : State} {g : Group} {c : Channel} {n : Nat}

/-- The claimant is not the holder that its CLAIM displaces. -/
theorem afterDisplacement_claimant :
    (afterDisplacement g { station := s.number, channel := c } n s).chans[c] = s.chans[c] := by
  cases htaken : claimIsTaken s.table.entries[g] { station := s.number, channel := c } n with
  | true => exact afterDisplacement_chan_other (entryHolder_of_taken htaken)
  | false => rw [afterDisplacement_of_not htaken]

theorem claimTakes_own {p : Station} (hlocal : p = u.number) :
    claimTakes g { station := p, channel := c } n u = { u with
      chans := if u.chans[c].state = .candidate then u.chans.set c { u.chans[c] with state := .contending } else u.chans
      table := { u.table with entries := u.table.entries.set g (.contested { station := p, channel := c } n 250000
        (if u.chans[c].state = .candidate then some u.tracker.settings.contestUs else none)) } } := by
  have hown : u.isLocal { station := p, channel := c } = true := decide_eq_true hlocal
  unfold claimTakes
  rw [hown, Bool.true_and]
  dsimp only
  by_cases hstate : u.chans[c].state = .candidate
  · rw [if_pos (decide_eq_true hstate), if_pos hstate, if_pos hstate]
    rfl
  · rw [if_neg (by simpa using hstate), if_neg hstate, if_neg hstate]
    rfl

theorem claimRefused_own {p : Station} (hlocal : p = u.number) :
    claimRefused { station := p, channel := c } u = { u with
      chans := if u.chans[c].state = .candidate then
          u.chans.set c { u.chans[c] with state := .suppressed, holdTimer := none } else u.chans } := by
  have hown : u.isLocal { station := p, channel := c } = true := decide_eq_true hlocal
  unfold claimRefused
  rw [hown, Bool.true_and]
  dsimp only
  by_cases hstate : u.chans[c].state = .candidate
  · rw [if_pos (decide_eq_true hstate), if_pos hstate]
    rfl
  · rw [if_neg (by simpa using hstate), if_neg hstate]

theorem claimHeard_own : claimHeard { station := s.number, channel := c } g n (afterFrame s) = { afterFrame s with
    chans := ownClaimedChans g c n s
    queue := (afterDisplacement g { station := s.number, channel := c } n s).queue
    table := ownClaimedTable g c n s, log := [].foldl logPut s.log } := by
  have hdisplaced : afterDisplacement g { station := s.number, channel := c } n (afterFrame s) = { afterFrame s with
      chans := (afterDisplacement g { station := s.number, channel := c } n s).chans
      queue := (afterDisplacement g { station := s.number, channel := c } n s).queue } :=
    afterDisplacement_eq _ _ _
  have htable : (afterFrame s).table = s.table := rfl
  rw [claimHeard_eq, hdisplaced, htable, ownClaimedChans, ownClaimedTable]
  dsimp only
  cases htaken : claimIsTaken s.table.entries[g] { station := s.number, channel := c } n with
  | true =>
    rw [if_pos rfl, claimTakes_own (by exact rfl)]
    dsimp only
    rw [afterDisplacement_claimant]
    by_cases hstate : s.chans[c].state = .candidate
    · simp only [hstate, ne_eq, not_true_eq_false, if_true, if_false, List.foldl_nil]
      rfl
    · simp only [hstate, ne_eq, not_false_eq_true, if_true, if_false, List.foldl_nil]
      rfl
  | false =>
    rw [afterDisplacement_of_not htaken, if_neg Bool.false_ne_true]
    by_cases hholder : entryHolder s.table.entries[g] = some { station := s.number, channel := c }
    · have hchans : (strayFrame (afterFrame s)).chans = s.chans := rfl
      rw [if_pos hholder, claimRefused_own (by exact rfl), hchans]
      by_cases hstate : s.chans[c].state = .candidate
      · simp only [hstate, hholder, ne_eq, not_true_eq_false, if_true, if_false, Bool.false_eq_true, List.foldl_nil]
        rfl
      · simp only [hstate, hholder, ne_eq, not_false_eq_true, if_true, if_false, Bool.false_eq_true, List.foldl_nil]
        rfl
    · have hchans : (afterFrame s).chans = s.chans := rfl
      rw [if_neg hholder, claimRefused_own (by exact rfl), hchans]
      by_cases hstate : s.chans[c].state = .candidate
      · simp only [hstate, hholder, ne_eq, not_true_eq_false, if_true, if_false, Bool.false_eq_true, List.foldl_nil]
        rfl
      · simp only [hstate, hholder, ne_eq, not_false_eq_true, if_true, if_false, Bool.false_eq_true, List.foldl_nil]
        rfl

theorem ownClaimedTable_entry_other {d : Group} (hd : d ≠ g) :
    (ownClaimedTable g c n s).entries[d] = s.table.entries[d] := by
  unfold ownClaimedTable
  dsimp only
  split
  · exact set_get_other _ (Ne.symm hd) _
  · split <;> rfl

theorem ownClaimedTable_of_refused
    (hrefused : claimIsTaken s.table.entries[g] { station := s.number, channel := c } n = false) :
    (ownClaimedTable g c n s).entries = s.table.entries := by
  unfold ownClaimedTable
  dsimp only
  rw [hrefused, if_neg Bool.false_ne_true]
  split <;> rfl

/-- An own CLAIM as an equation for the whole state. -/
theorem deliver_own_claim : deliver (.claim n s.number g c) (some (.group g)) s = evaluate (fun d => decide (d = g))
    (ownTaken g true (ownClaimedChans g c n s) (afterDisplacement g { station := s.number, channel := c } n s).queue
      (slotAfterSuccess none
        (afterDisplacement g { station := s.number, channel := c } n s).queue.withdrawnInFlight
        (afterDisplacement g { station := s.number, channel := c } n s).queue.groups[g])
      (ownClaimedTable g c n s) [] s) :=
  deliver_own_group (f := .claim n s.number g c) rfl rfl rfl claimHeard_own
    fun _ hd => congrArg standing (ownClaimedTable_entry_other hd)

theorem ownClaimedChans_claimant : (ownClaimedChans g c n s)[c] =
    if s.chans[c].state ≠ .candidate then s.chans[c]
    else if claimIsTaken s.table.entries[g] { station := s.number, channel := c } n then
      { s.chans[c] with state := .contending }
    else { s.chans[c] with state := .suppressed, holdTimer := none } := by
  unfold ownClaimedChans
  dsimp only
  split
  · exact afterDisplacement_claimant
  · split <;> exact set_get_same _ _ _

theorem ownClaimedChans_other {d : Channel} (hd : d ≠ c) : (ownClaimedChans g c n s)[d]
    = (afterDisplacement g { station := s.number, channel := c } n s).chans[d] := by
  unfold ownClaimedChans
  dsimp only
  split
  · rfl
  · split <;> exact set_get_other _ (Ne.symm hd) _

theorem ownClaimedChans_claimant_not_candidate : (ownClaimedChans g c n s)[c].state ≠ .candidate := by
  rw [ownClaimedChans_claimant]
  split
  next hstate => exact hstate
  next => split <;> exact nofun

theorem afterDisplacement_of_taken {h old : Holder} (htaken : claimIsTaken s.table.entries[g] h n = true)
    (hold : entryHolder s.table.entries[g] = some old) : afterDisplacement g h n s = afterLoss g old s := by
  unfold afterDisplacement
  cases he : s.table.entries[g] with
  | free | guarded => rw [he] at hold; cases hold
  | owned => rw [he] at htaken; cases htaken
  | contested held st abandon contest =>
    rw [he] at hold htaken
    cases hold
    exact if_pos htaken

theorem afterDisplacement_of_unheld {h : Holder} (hold : entryHolder s.table.entries[g] = none) :
    afterDisplacement g h n s = s := by
  obtain heq | ⟨old, hheld, -⟩ := afterDisplacement_cases g h n s
  · exact heq
  · rw [hold] at hheld
    cases hheld

/-- The slot whose CLAIM displaces another holder: the CLAIM stands, with no follow-up of who is displaced. -/
theorem afterDisplacement_slot {fu : Option (Channel × Reason)}
    (hslot : s.queue.groups[g] = { frame := some (.claim c), followUp := fu }) :
    (afterDisplacement g { station := s.number, channel := c } n s).queue.withdrawnInFlight = s.queue.withdrawnInFlight
      ∧ (afterDisplacement g { station := s.number, channel := c } n s).queue.groups[g] = {
        frame := some (.claim c)
        followUp := fu.filter fun f => !(claimIsTaken s.table.entries[g] { station := s.number, channel := c } n
          && decide (entryHolder s.table.entries[g] = some { station := s.number, channel := f.1 })) } := by
  have hall (f : Channel × Reason → Bool) (hf : ∀ x, f x = true) : fu.filter f = fu := by
    cases fu with
    | none => rfl
    | some x => exact Option.filter_some_pos (hf x)
  cases htaken : claimIsTaken s.table.entries[g] { station := s.number, channel := c } n with
  | false =>
    rw [afterDisplacement_of_not htaken, hslot]
    exact ⟨rfl, congrArg (GroupSlot.mk _) (hall _ fun _ => rfl).symm⟩
  | true =>
    cases hold : entryHolder s.table.entries[g] with
    | none =>
      rw [afterDisplacement_of_unheld hold, hslot]
      exact ⟨rfl, congrArg (GroupSlot.mk _) (hall _ fun _ => rfl).symm⟩
    | some old =>
      rw [afterDisplacement_of_taken htaken hold]
      by_cases hlocal : old.station = s.number
      · obtain ⟨station, d⟩ := old
        have hstation : station = s.number := hlocal
        subst hstation
        have hne : c ≠ d := by
          rintro rfl
          exact entryHolder_of_taken htaken hold
        rw [afterLoss_slot rfl, afterLoss, if_pos rfl, hslot]
        have hunmarked : markedWithdrawn s.queue g (fun e => decide (e = d)) = false := by
          rw [markedWithdrawn, hslot]
          simp [frameChannel, hne]
        dsimp only
        rw [hunmarked, Bool.or_false]
        refine ⟨rfl, ?_⟩
        cases fu with
        | none => simp [slotAfterWithdrawal, frameChannel, hne]
        | some x =>
          obtain ⟨e, reason⟩ := x
          by_cases he : d = e
          · subst he
            simp [slotAfterWithdrawal, frameChannel, hne, Option.filter]
          · simp [slotAfterWithdrawal, frameChannel, hne, he, Ne.symm he, Option.filter]
      · have hkept : afterLoss g old s = s := if_neg hlocal
        rw [hkept, hslot]
        refine ⟨rfl, congrArg (GroupSlot.mk _) (hall _ fun x => ?_).symm⟩
        rw [Bool.true_and, Bool.not_eq_true', decide_eq_false_iff_not]
        exact fun hc => hlocal (congrArg Holder.station (Option.some.inj hc))

theorem slotAfterSuccess_of_none {confirmed : Option Channel} {withdrawn : Bool} {sl : GroupSlot}
    (hfollow : sl.followUp = none) :
    slotAfterSuccess confirmed withdrawn sl = { frame := none, followUp := none } := by
  unfold slotAfterSuccess
  rw [hfollow]
  cases withdrawn <;> rfl

/-- A CLAIM that is taken leaves no CONFIRM to ask for again, but behind a claimant that already contends. -/
theorem slotConfirmedAgain_of_taken
    (htaken : claimIsTaken s.table.entries[g] { station := s.number, channel := c } n = true)
    (hstate : s.chans[c].state ≠ .contending) (sl : GroupSlot) : slotConfirmedAgain { s with
      chans := ownClaimedChans g c n s, table := ownClaimedTable g c n s } g sl = sl := by
  have hentry : (ownClaimedTable g c n s).entries[g] = .contested { station := s.number, channel := c } n 250000
      (if s.chans[c].state = .candidate then some s.tracker.settings.contestUs else none) := by
    unfold ownClaimedTable
    dsimp only
    rw [htaken, if_pos rfl]
    exact set_get_same _ _ _
  refine slotConfirmedAgain_of_not fun h held abandon he hcalled => ?_
  have hclaimed := hentry.symm.trans he
  by_cases hcandidate : s.chans[c].state = .candidate
  · rw [if_pos hcandidate] at hclaimed
    cases hclaimed
  · rw [if_neg hcandidate] at hclaimed
    cases hclaimed
    have hcontends : (ownClaimedChans g c n s)[c].state = .contending := hcalled.2
    rw [ownClaimedChans_claimant, if_pos hcandidate] at hcontends
    exact hstate hcontends

end

/-- Settles O21: one evaluation of group `g` in the station that has taken the CLAIM as its own. -/
theorem ownClaimMakesItsChannelContend : Obligations.OwnClaimMakesItsChannelContend := by
  intro s a g c n hsends honline hslot hframe h takes displaced chans
  have hexec := exec_frameHeard_own hsends
  rw [hslot, hframe, deliver_own_claim] at hexec
  obtain ⟨t, ht⟩ : ∃ t, t = evaluate (fun d => decide (d = g)) (ownTaken g true (ownClaimedChans g c n s)
    displaced.queue (slotAfterSuccess none displaced.queue.withdrawnInFlight displaced.queue.groups[g])
    (ownClaimedTable g c n s) [] s) := ⟨_, rfl⟩
  have hslotThere := ownTaken_slot (s := s) (g := g) (active := true) (chans := ownClaimedChans g c n s)
    (queue := displaced.queue)
    (sl := slotAfterSuccess none displaced.queue.withdrawnInFlight displaced.queue.groups[g])
    (table := ownClaimedTable g c n s) (events := [])
  obtain ⟨u, hu⟩ : ∃ u, u = ownTaken g true (ownClaimedChans g c n s)
    displaced.queue (slotAfterSuccess none displaced.queue.withdrawnInFlight displaced.queue.groups[g])
    (ownClaimedTable g c n s) [] s := ⟨_, rfl⟩
  obtain ⟨hslots, hchans, hfly, hmark, htable, hroster, hlog, hcad, hlink, htracker, houtside⟩ := ownTaken_evaluated ht
  have hclaimant : t.chans[c] = (ownClaimedChans g c n s)[c] := hchans c (.inl ownClaimedChans_claimant_not_candidate)
  rw [ownClaimedChans_claimant] at hclaimant
  rw [if_pos honline, ← hu] at hslotThere
  have hteval : t = evaluate (fun d => decide (d = g)) u := by rw [ht, hu]
  have hreleased {d : Channel} {reason : Reason}
      (hpromoted : slotAfterSuccess none displaced.queue.withdrawnInFlight displaced.queue.groups[g]
        = { frame := some (.release d reason), followUp := none }) :
      t.queue.groups[g] = { frame := some (.release d reason), followUp := none } := by
    rw [hpromoted, slotConfirmedAgain_of_release rfl] at hslotThere
    rw [hteval, evaluate_slot_of_stands _ (f := .release d reason) (by rw [hslotThere]) nofun, hslotThere]
  rw [hframe, hexec, ← ht]
  refine ⟨t, rfl, ?taken, ?left, ?refused, ?displaced, ?followUp, ?confirm, ?empty, hfly, hmark, ?slots, hlink, hlog,
    hroster, htracker, houtside, ?cad, ?whole⟩
  case taken =>
    intro htaken hstate
    have htaken' : claimIsTaken s.table.entries[g] { station := s.number, channel := c } n = true := htaken
    rw [htable, hclaimant, ownClaimedTable]
    dsimp only
    rw [htaken', if_pos rfl, if_pos hstate, if_neg (not_not.mpr hstate), if_pos rfl]
    exact ⟨rfl, rfl⟩
  case left =>
    intro htaken hstate
    have htaken' : claimIsTaken s.table.entries[g] { station := s.number, channel := c } n = true := htaken
    rw [htable, hclaimant, ownClaimedTable]
    dsimp only
    rw [htaken', if_pos rfl, if_neg hstate, if_pos hstate]
    exact ⟨rfl, rfl⟩
  case refused =>
    intro htaken
    have htaken' : claimIsTaken s.table.entries[g] { station := s.number, channel := c } n = false := htaken
    rw [htable, hclaimant, ownClaimedTable]
    dsimp only
    rw [htaken', if_neg Bool.false_ne_true, if_neg Bool.false_ne_true]
    refine ⟨rfl, ?_⟩
    by_cases hstate : s.chans[c].state = .candidate
    · rw [if_pos hstate, if_neg (not_not.mpr hstate)]
    · rw [if_neg hstate, if_pos hstate]
  case displaced =>
    intro own held abandon contest htaken he hstate
    have hold : entryHolder s.table.entries[g] = some { station := s.number, channel := own } := by rw [he]; rfl
    have hne : own ≠ c := by
      rintro rfl
      exact entryHolder_of_taken htaken hold
    have hlost : (ownClaimedChans g c n s)[own]
        = { s.chans[own] with state := .suppressed, holdTimer := none } := by
      rw [ownClaimedChans_other hne, afterDisplacement_of_taken htaken hold]
      exact afterLoss_chan (h := { station := s.number, channel := own }) rfl hstate
    rw [hchans own (.inl (by rw [hlost]; exact nofun)), hlost]
  case followUp =>
    intro d reason hsl hwithdrawn
    obtain ⟨hunmarked, hthere⟩ := afterDisplacement_slot (n := n) hsl
    refine ⟨fun htaken hne hold hstate => ?_, fun hkept => ?_⟩
    · have hgone : displaced.queue.groups[g].followUp = none := by
        have htaken' : claimIsTaken s.table.entries[g] { station := s.number, channel := c } n = true := htaken
        rw [htaken', hold] at hthere
        refine (congrArg GroupSlot.followUp hthere).trans ?_
        simp [Option.filter]
      rw [slotAfterSuccess_of_none hgone, slotConfirmedAgain_of_taken htaken hstate] at hslotThere
      rw [hteval]
      exact ⟨evaluate_slot_of_empty _ (by rw [hslotThere]), by rw [evaluate_slot_followUp, hslotThere]⟩
    · refine hreleased ?_
      have hstays : displaced.queue.groups[g] = { frame := some (.claim c), followUp := some (d, reason) } := by
        refine hthere.trans (congrArg (GroupSlot.mk _) (Option.filter_some_pos ?_))
        rw [Bool.not_eq_true', Bool.and_eq_false_iff]
        obtain hrefused | rfl := hkept
        · exact .inl hrefused
        · by_cases htaken : takes = true
          · exact .inr (decide_eq_false (entryHolder_of_taken htaken))
          · exact .inl (Bool.not_eq_true _ ▸ htaken)
      have hmarked : displaced.queue.withdrawnInFlight = false := hunmarked.trans hwithdrawn
      rw [hstays, hmarked]
      rfl
  case confirm =>
    intro own held abandon hsl htaken he hne hstate
    have hsame : displaced = s := afterDisplacement_of_not htaken
    have hempty : slotAfterSuccess none displaced.queue.withdrawnInFlight displaced.queue.groups[g]
        = { frame := none, followUp := none } := slotAfterSuccess_of_none (by rw [hsame, hsl])
    have hown : (ownClaimedChans g c n s)[own].state = .contending := by
      rw [ownClaimedChans_other hne, afterDisplacement_of_not htaken, hstate]
    have hentry : (ownClaimedTable g c n s).entries[g]
        = .contested { station := s.number, channel := own } held abandon none := by
      rw [ownClaimedTable_of_refused htaken, he]
    have hconfirm : slotConfirmedAgain { s with chans := ownClaimedChans g c n s, table := ownClaimedTable g c n s } g
        { frame := none, followUp := none } = { frame := some (.confirm own), followUp := none } := by
      simp only [slotConfirmedAgain, hentry]
      exact if_pos ⟨rfl, hown⟩
    rw [hempty, hconfirm] at hslotThere
    rw [hteval, evaluate_slot_of_stands _ (f := .confirm own) (by rw [hslotThere]) nofun, hslotThere]
  case empty =>
    intro hsl
    obtain ⟨-, hthere⟩ := afterDisplacement_slot (n := n) hsl
    have hgone : displaced.queue.groups[g].followUp = none := congrArg GroupSlot.followUp hthere
    rw [slotAfterSuccess_of_none hgone] at hslotThere
    rw [hteval]
    exact evaluate_slot_of_left_empty _ hslotThere
  case slots =>
    intro d hd
    rw [hslots d hd]
    exact afterDisplacement_slot_other hd
  case cad => rw [hcad, htable]
  case whole =>
    obtain ⟨-, -, hpulse, -, -⟩ := afterDisplacement_queue_keeps (g := g) (h := h) (n := n) (s := s)
    have hasked : (displaced.queue.pulse || (true && decide (s.cad.cadence = .slack ∧ s.ctrl.state = .online)))
        = (s.queue.pulse || decide (s.cad.cadence = .slack)) := by
      simp only [honline, and_true, Bool.true_and]
      exact congrArg (· || _) hpulse
    rw [htable, hlog, hcad, hlink, ← hasked, ht, ownTaken, if_pos honline]
    rfl

end Sys2Proof.Machine
end

section
/-! PROOF. The success of an own CONFIRM and RELEASE (03, R52, R54; 04, R79, R82; 05, R97; 06, R115). -/

namespace Sys2Proof.Machine

/-- The claim table after the own CONFIRM of channel `c`, heard in `s`. -/
def ownConfirmedTable (g : Group) (c : Channel) (s : State) : ClaimTable :=
  match s.table.entries[g] with
  | .contested h held _ _ =>
    if h = { station := s.number, channel := c } then
      { s.table with entries := s.table.entries.set g (.owned h held s.log.clock) }
    else { s.table with stray := satInc s.table.stray }
  | _ => { s.table with stray := satInc s.table.stray }

/-- What the own CONFIRM of channel `c`, heard in `s`, puts in the log. -/
def ownConfirmedEvents (g : Group) (c : Channel) (s : State) : List Event :=
  match s.table.entries[g] with
  | .contested h held _ _ =>
    if h = { station := s.number, channel := c } then [.keyDown h g held .confirmed] else []
  | _ => []

/-- The records after the own CONFIRM of channel `c`, heard in `s`. -/
def ownConfirmedChans (g : Group) (c : Channel) (s : State) : Vector Chan 16 :=
  if isContestOf { station := s.number, channel := c } s.table.entries[g] ∧ s.chans[c].state = .contending then
    s.chans.set c { s.chans[c] with state := .pressed, holdTimer := s.tracker.settings.holdUs }
  else s.chans

section
variable {s u : State} {g : Group} {c : Channel} {held abandon : Nat} {contest : Option Nat} {reason : Reason}

theorem ownConfirmed_of_contest
    (he : s.table.entries[g] = .contested { station := s.number, channel := c } held abandon contest) :
    ownConfirmedTable g c s = { s.table with
        entries := s.table.entries.set g (.owned { station := s.number, channel := c } held s.log.clock) }
      ∧ ownConfirmedEvents g c s = [.keyDown { station := s.number, channel := c } g held .confirmed] := by
  unfold ownConfirmedTable ownConfirmedEvents
  rw [he]
  exact ⟨if_pos rfl, if_pos rfl⟩

theorem ownConfirmed_of_not (hnot : isContestOf { station := s.number, channel := c } s.table.entries[g] = false) :
    ownConfirmedTable g c s = { s.table with stray := satInc s.table.stray } ∧ ownConfirmedEvents g c s = []
      ∧ ownConfirmedChans g c s = s.chans := by
  refine ⟨?_, ?_, if_neg fun hc => by rw [hnot] at hc; exact Bool.false_ne_true hc.1⟩
  · unfold ownConfirmedTable
    split
    next he =>
      rw [he] at hnot
      exact if_neg (of_decide_eq_false hnot)
    next => rfl
  · unfold ownConfirmedEvents
    split
    next he =>
      rw [he] at hnot
      exact if_neg (of_decide_eq_false hnot)
    next => rfl

theorem ownConfirmedTable_entry_other {d : Group} (hd : d ≠ g) :
    (ownConfirmedTable g c s).entries[d] = s.table.entries[d] := by
  unfold ownConfirmedTable
  split
  · split
    · exact set_get_other _ (Ne.symm hd) _
    · rfl
  · rfl

theorem confirmHeard_own : confirmHeard { station := s.number, channel := c } g (afterFrame s) = { afterFrame s with
    chans := ownConfirmedChans g c s, queue := s.queue, table := ownConfirmedTable g c s
    log := (ownConfirmedEvents g c s).foldl logPut s.log } := by
  cases hwon : isContestOf { station := s.number, channel := c } s.table.entries[g] with
  | true =>
    obtain ⟨held, abandon, contest, he⟩ := isContestOf_iff.mp hwon
    obtain ⟨htable, hevents⟩ := ownConfirmed_of_contest he
    have hchans : ownConfirmedChans g c s = if s.number = s.number ∧ s.chans[c].state = .contending then
        s.chans.set c { s.chans[c] with state := .pressed, holdTimer := s.tracker.settings.holdUs }
        else s.chans := by
      rw [ownConfirmedChans, hwon]
      exact if_congr (and_congr_left fun _ => iff_of_true rfl rfl) rfl rfl
    rw [confirmHeard_of_contest (s := afterFrame s) he, htable, hevents, hchans]
    rfl
  | false =>
    obtain ⟨htable, hevents, hchans⟩ := ownConfirmed_of_not hwon
    rw [confirmHeard_of_not (s := afterFrame s) hwon, htable, hevents, hchans]
    rfl

theorem ownConfirmedChans_of_contest
    (he : s.table.entries[g] = .contested { station := s.number, channel := c } held abandon contest) :
    ownConfirmedChans g c s = if s.chans[c].state = .contending then
      s.chans.set c { s.chans[c] with state := .pressed, holdTimer := s.tracker.settings.holdUs } else s.chans := by
  have hwon := isContestOf_iff.mpr ⟨held, abandon, contest, he⟩
  exact if_congr (and_iff_right hwon) rfl rfl

/-- An OWNED group has no CONFIRM to ask for again. -/
theorem slotConfirmedAgain_of_owned {since : Word} {h : Holder} (howned : u.table.entries[g] = .owned h held since)
    (sl : GroupSlot) : slotConfirmedAgain u g sl = sl :=
  slotConfirmedAgain_of_not fun h' n abandon he => by rw [howned] at he; cases he

/-- A group in GUARD has no CONFIRM to ask for again. -/
theorem slotConfirmedAgain_of_guarded {rem : Nat} (hguard : u.table.entries[g] = .guarded rem) (sl : GroupSlot) :
    slotConfirmedAgain u g sl = sl :=
  slotConfirmedAgain_of_not fun h' n abandon he => by rw [hguard] at he; cases he

/-- An own CONFIRM as an equation for the whole state. -/
theorem deliver_own_confirm : deliver (.confirm s.number g c) (some (.group g)) s = evaluate (fun d => decide (d = g))
    (ownTaken g true (ownConfirmedChans g c s) s.queue
      (slotAfterSuccess (some c) s.queue.withdrawnInFlight s.queue.groups[g]) (ownConfirmedTable g c s)
      (ownConfirmedEvents g c s) s) :=
  deliver_own_group (f := .confirm s.number g c) rfl rfl rfl confirmHeard_own
    fun _ hd => congrArg standing (ownConfirmedTable_entry_other hd)

/-- The claim table after the own RELEASE of channel `c`, heard in `s`. -/
def ownReleasedTable (g : Group) (c : Channel) (s : State) : ClaimTable :=
  if entryHolder s.table.entries[g] = some { station := s.number, channel := c } then
    { s.table with entries := s.table.entries.set g (.guarded 24000) }
  else { s.table with stray := satInc s.table.stray }

/-- What the own RELEASE of channel `c`, heard in `s`, puts in the log. -/
def ownReleasedEvents (g : Group) (c : Channel) (reason : Reason) (s : State) : List Event :=
  if entryHolder s.table.entries[g] = some { station := s.number, channel := c } then
    releaseEvents { station := s.number, channel := c } g reason s.table.entries[g]
  else []

theorem ownReleasedTable_entry_other {d : Group} (hd : d ≠ g) :
    (ownReleasedTable g c s).entries[d] = s.table.entries[d] := by
  unfold ownReleasedTable
  split
  · exact set_get_other _ (Ne.symm hd) _
  · rfl

theorem releaseHeard_own :
    releaseHeard { station := s.number, channel := c } g reason (afterFrame s) = { afterFrame s with
      chans := s.chans, queue := s.queue, table := ownReleasedTable g c s
      log := (ownReleasedEvents g c reason s).foldl logPut s.log } := by
  unfold ownReleasedTable ownReleasedEvents
  by_cases hholder : entryHolder s.table.entries[g] = some { station := s.number, channel := c }
  · rw [releaseHeard_of_holder (s := afterFrame s) reason hholder, if_pos hholder, if_pos hholder]
    rfl
  · rw [releaseHeard_of_not (s := afterFrame s) reason hholder, if_neg hholder, if_neg hholder]
    rfl

theorem ownReleased_of_holder
    (hholder : entryHolder s.table.entries[g] = some { station := s.number, channel := c }) :
    ownReleasedTable g c s = { s.table with entries := s.table.entries.set g (.guarded 24000) }
      ∧ (ownReleasedEvents g c reason s).foldl logPut s.log = (match s.table.entries[g] with
        | .owned _ _ _ => logPut s.log (.keyUp { station := s.number, channel := c } g (upReason reason))
        | _ => s.log) := by
  refine ⟨if_pos hholder, ?_⟩
  rw [ownReleasedEvents, if_pos hholder]
  cases s.table.entries[g] with
  | free | contested | owned | guarded => rfl

theorem ownReleased_of_not
    (hholder : entryHolder s.table.entries[g] ≠ some { station := s.number, channel := c }) :
    ownReleasedTable g c s = { s.table with stray := satInc s.table.stray }
      ∧ (ownReleasedEvents g c reason s).foldl logPut s.log = s.log :=
  ⟨if_neg hholder, by rw [ownReleasedEvents, if_neg hholder, List.foldl_nil]⟩

/-- An own RELEASE as an equation for the whole state. -/
theorem deliver_own_release : deliver (.release s.number g c reason) (some (.group g)) s =
    evaluate (fun d => decide (d = g)) (ownTaken g false s.chans s.queue
      (slotAfterSuccess none s.queue.withdrawnInFlight s.queue.groups[g]) (ownReleasedTable g c s)
      (ownReleasedEvents g c reason s) s) :=
  deliver_own_group (f := .release s.number g c reason) rfl rfl rfl releaseHeard_own
    fun _ hd => congrArg standing (ownReleasedTable_entry_other hd)

/-! ### The evaluation of a group in GUARD (04, R72, R73) -/

/-- A GUARD beats no candidate. -/
theorem evaluate_chans_of_guarded {rem : Nat} (hguard : u.table.entries[g] = .guarded rem) :
    (evaluate (fun d => decide (d = g)) u).chans = u.chans := by
  unfold evaluate
  split
  · refine Vector.ext fun i hi => (each_get _ _ (⟨i, hi⟩ : Fin 16)).trans ?_
    show (if decide (u.chans[i].setup.group = g) then _ else _) = _
    split
    next h => simp [evaluatedChan, of_decide_eq_true h, hguard, suppresses]
    next => rfl
  · rfl

/-- A GUARD has no candidate to choose, so an empty slot stays empty. -/
theorem evaluate_slot_of_guarded (which : Group → Bool) {rem : Nat} (hguard : u.table.entries[g] = .guarded rem)
    (hempty : u.queue.groups[g].frame = none) : (evaluate which u).queue.groups[g] = u.queue.groups[g] := by
  have hchoice : choice u g = none := by simp [choice, eligible, hguard, admitsClaim]
  have hkept : evaluatedSlot u g = u.queue.groups[g] := by
    simp only [evaluatedSlot, hchoice, claimWithdrawn, hempty, Bool.false_eq_true, if_false]
  unfold evaluate
  split
  · dsimp only
    rw [each_get, hkept, ite_self]
  · rfl

/-! ### What a success leaves at its slot (04, R79, R82; 06, R115) -/

theorem slotAfterSuccess_cases (confirmed : Option Channel) (withdrawn : Bool) (sl : GroupSlot) :
    slotAfterSuccess confirmed withdrawn sl = { frame := none, followUp := none }
      ∨ ∃ d reason, slotAfterSuccess confirmed withdrawn sl
        = { frame := some (.release d reason), followUp := none } := by
  unfold slotAfterSuccess
  split
  · exact .inr ⟨_, _, rfl⟩
  · exact .inl rfl

section
variable {active : Bool} {chans : Vector Chan 16} {queue : TxQueue} {table : ClaimTable} {events : List Event}

/-- In an OWNED group the slot of a success stays as the success left it. -/
theorem evaluate_ownTaken_of_owned {h : Holder} {since : Word} (howned : table.entries[g] = .owned h held since)
    (confirmed : Option Channel) (withdrawn : Bool) (sl : GroupSlot) :
    (evaluate (fun d => decide (d = g)) (ownTaken g active chans queue (slotAfterSuccess confirmed withdrawn sl)
      table events s)).queue.groups[g] = slotAfterSuccess confirmed withdrawn sl := by
  have hthere : (ownTaken g active chans queue (slotAfterSuccess confirmed withdrawn sl) table events s).queue.groups[g]
      = slotAfterSuccess confirmed withdrawn sl := by
    rw [ownTaken_slot, slotConfirmedAgain_of_owned (u := { s with chans := chans, table := table }) howned, ite_self]
  obtain hempty | ⟨d, reason, hrelease⟩ := slotAfterSuccess_cases confirmed withdrawn sl
  · exact (evaluate_slot_of_owned _ _ g howned (by rw [hthere, hempty])).trans hthere
  · exact (evaluate_slot_of_stands _ (f := .release d reason) (by rw [hthere, hrelease]) nofun).trans hthere

/-- In a group in GUARD an empty slot stays empty, and no record changes. -/
theorem evaluate_ownTaken_of_guarded {rem : Nat} (hguard : table.entries[g] = .guarded rem) :
    let t := evaluate (fun d => decide (d = g))
      (ownTaken g active chans queue { frame := none, followUp := none } table events s)
    t.chans = chans ∧ t.queue.groups[g] = { frame := none, followUp := none } := by
  have hthere : (ownTaken g active chans queue { frame := none, followUp := none } table events s).queue.groups[g]
      = { frame := none, followUp := none } := by
    rw [ownTaken_slot, slotConfirmedAgain_of_guarded (u := { s with chans := chans, table := table }) hguard, ite_self]
  exact ⟨evaluate_chans_of_guarded hguard,
    (evaluate_slot_of_guarded _ hguard (by rw [hthere])).trans hthere⟩

/-- An empty slot takes a CLAIM or a CONFIRM, or stays empty. -/
theorem evaluate_ownTaken_of_empty :
    let t := evaluate (fun d => decide (d = g))
      (ownTaken g active chans queue { frame := none, followUp := none } table events s)
    t.queue.groups[g].followUp = none ∧ (t.queue.groups[g].frame.all fun f => isClaim f || isConfirm f) = true := by
  intro t
  by_cases honline : s.ctrl.state = .online
  · exact evaluate_slot_of_left_empty _ (ownTaken_slot.trans (if_pos honline))
  · have hoffline : (ownTaken g active chans queue { frame := none, followUp := none } table events s).online = false :=
      decide_eq_false honline
    have hthere : t.queue.groups[g] = { frame := none, followUp := none } := by
      rw [show t = _ from evaluate_offline _ _ hoffline, ownTaken_slot, if_neg honline]
    rw [hthere]
    exact ⟨rfl, rfl⟩

end

end

/-- Settles O22: one evaluation of group `g` in the station that has taken the frame as its own. -/
theorem ownConfirmPressesItsChannel : Obligations.OwnConfirmPressesItsChannel := by
  intro s a g c hsends hslot h
  have hexec := exec_frameHeard_own hsends
  rw [hslot] at hexec
  refine ⟨fun held abandon contest hwithdrawn hframe he => ?pressed, fun reason hwithdrawn hframe hfollow => ?released,
    fun hframe => ?confirm, fun reason hframe => ?release⟩
  case pressed =>
    rw [hframe, deliver_own_confirm, hwithdrawn] at hexec
    obtain ⟨howned, hevents⟩ := ownConfirmed_of_contest he
    have hpressed := ownConfirmedChans_of_contest he
    obtain ⟨t, ht⟩ : ∃ t, t = evaluate (fun d => decide (d = g)) (ownTaken g true (ownConfirmedChans g c s) s.queue
      (slotAfterSuccess (some c) false s.queue.groups[g]) (ownConfirmedTable g c s) (ownConfirmedEvents g c s) s) :=
      ⟨_, rfl⟩
    obtain ⟨hslots, hchans, hfly, -, htable, hroster, hlog, hcad, hlink, htracker, houtside⟩ := ownTaken_evaluated ht
    have hentry : (ownConfirmedTable g c s).entries[g] = .owned h held s.log.clock := by
      rw [howned]
      exact set_get_same _ _ _
    rw [hframe, hexec, ← ht]
    refine ⟨t, rfl, htable.trans howned, fun hstate => ?_, fun hstate => ?_, ?_, hslots, hfly, ?_, hlink, hroster,
      htracker, houtside, by rw [hcad, htable], ?_⟩
    · rw [if_pos hstate] at hpressed
      have hchan : (ownConfirmedChans g c s)[c] = _ := hpressed ▸ set_get_same _ _ _
      rw [hchans c (.inl (by rw [hchan]; exact nofun)), hchan]
    · rw [if_neg (by rw [hstate]; exact nofun)] at hpressed
      rw [hchans c (.inl (by rw [hpressed, hstate]; exact nofun)), hpressed]
    · rw [ht, evaluate_ownTaken_of_owned hentry]
      unfold slotAfterSuccess
      cases s.queue.groups[g].followUp with
      | none => rfl
      | some x => simp only [Option.some.injEq, eq_comm]
    · rw [hlog, hevents]
      rfl
    · have hagain := slotConfirmedAgain_of_owned
        (u := { s with chans := ownConfirmedChans g c s, table := ownConfirmedTable g c s }) hentry
      rw [htable, hlog, hcad, hlink, ← hpressed, ht, ownTaken, hagain, ite_self]
      rfl
  case released =>
    rw [hframe, deliver_own_release, hwithdrawn, slotAfterSuccess_of_none hfollow] at hexec
    obtain ⟨t, ht⟩ : ∃ t, t = evaluate (fun d => decide (d = g)) (ownTaken g false s.chans s.queue
      { frame := none, followUp := none } (ownReleasedTable g c s) (ownReleasedEvents g c reason s) s) := ⟨_, rfl⟩
    obtain ⟨hslots, hchans, hfly, -, htable, hroster, hlog, hcad, hlink, htracker, houtside⟩ := ownTaken_evaluated ht
    have hlogged : t.log = (ownReleasedEvents g c reason s).foldl logPut s.log := by
      rw [hlog, if_neg Bool.false_ne_true, List.append_nil]
    rw [hframe, hexec, ← ht]
    refine ⟨t, rfl, fun hholder => ?_, fun hholder => ?_, fun d hd => hchans d (.inr hd), hslots, hfly, hlink, hroster,
      htracker, houtside, ?_⟩
    · obtain ⟨hguard, hevents⟩ := ownReleased_of_holder (reason := reason) hholder
      have hne : standing (.guarded 24000) ≠ standing s.table.entries[g] := by
        cases he : s.table.entries[g] with
        | free | guarded => rw [he] at hholder; cases hholder
        | contested | owned => exact nofun
      have hentry : (ownReleasedTable g c s).entries[g] = .guarded 24000 := by
        rw [hguard]
        exact set_get_same _ _ _
      obtain ⟨hsame, hempty⟩ := ht ▸ evaluate_ownTaken_of_guarded hentry
      refine ⟨htable.trans hguard, hsame, hempty, hlogged.trans hevents, ?_⟩
      rw [hcad, htable, hguard]
      simp only [cadenceAfter, tableDiffers_set hne, and_true, Bool.false_eq_true, if_false]
    · obtain ⟨hstray, hevents⟩ := ownReleased_of_not (reason := reason) hholder
      refine ⟨htable.trans hstray, hlogged.trans hevents, ?_, ?_⟩
      · rw [hcad, hstray]
        simp only [cadenceAfter, not_tableDiffers_self, and_false, Bool.false_eq_true, if_false]
      · rw [ht]
        exact evaluate_ownTaken_of_empty
    · rw [htable, hlog, hcad, hlink, ht, ownTaken, Bool.false_and, Bool.or_false]
      rfl
  case confirm =>
    intro won chans slot
    rw [hframe, deliver_own_confirm] at hexec
    obtain ⟨t, ht⟩ : ∃ t, t = evaluate (fun d => decide (d = g)) (ownTaken g true (ownConfirmedChans g c s) s.queue
      (slotAfterSuccess (some c) s.queue.withdrawnInFlight s.queue.groups[g]) (ownConfirmedTable g c s)
      (ownConfirmedEvents g c s) s) := ⟨_, rfl⟩
    obtain ⟨-, -, -, -, htable, -, hlog, hcad, hlink, -, -⟩ := ownTaken_evaluated ht
    rw [hframe, hexec, ← ht]
    refine ⟨t, rfl, fun hnot => ?_, fun held abandon contest he => ?_, by rw [hcad, htable], ?_⟩
    · obtain ⟨hstray, hevents, -⟩ := ownConfirmed_of_not (c := c) (g := g) hnot
      rw [htable, hlog, hstray, hevents]
      exact ⟨rfl, rfl⟩
    · obtain ⟨howned, hevents⟩ := ownConfirmed_of_contest he
      rw [htable, hlog, howned, hevents]
      exact ⟨rfl, rfl⟩
    · rw [htable, hlog, hcad, ht]
      rfl
  case release =>
    intro slot
    rw [hframe, deliver_own_release] at hexec
    obtain ⟨t, ht⟩ : ∃ t, t = evaluate (fun d => decide (d = g)) (ownTaken g false s.chans s.queue
      (slotAfterSuccess none s.queue.withdrawnInFlight s.queue.groups[g]) (ownReleasedTable g c s)
      (ownReleasedEvents g c reason s) s) := ⟨_, rfl⟩
    obtain ⟨-, -, -, -, htable, -, hlog, hcad, hlink, -, -⟩ := ownTaken_evaluated ht
    have hlogged : t.log = (ownReleasedEvents g c reason s).foldl logPut s.log := by
      rw [hlog, if_neg Bool.false_ne_true, List.append_nil]
    rw [hframe, hexec, ← ht]
    refine ⟨t, rfl, fun hholder => ?_, fun hholder => ?_, by rw [hcad, htable], ?_⟩
    · obtain ⟨hguard, hevents⟩ := ownReleased_of_holder (reason := reason) hholder
      exact ⟨htable.trans hguard, hlogged.trans hevents⟩
    · obtain ⟨hstray, hevents⟩ := ownReleased_of_not (reason := reason) hholder
      exact ⟨htable.trans hstray, hlogged.trans hevents⟩
    · rw [htable, hlog, hcad, ht, ownTaken, Bool.false_and, Bool.or_false]
      rfl

end Sys2Proof.Machine
end

end
